-- ==== Sys2Proof/Word.lean ====
section
/-! DEFINITION. The unit of data every layout of the manual is made of. -/

namespace Sys2Proof

/-- One byte of a frame, a record, a register or the local store. -/
abbrev Byte := BitVec 8

end Sys2Proof
end

