-- ==== Sys2Proof/Config.lean ====
section
/-! DEFINITION. The constants the manual fixes for the GB4120, and the four choices it leaves open: they are
opaque, so that whatever is proved holds for either choice (assumptions 16 to 18). -/

namespace Sys2Proof

/-- R94: the local store holds 524,288 bytes. -/
def Config.storeSize : Nat := 524288

/-- R107: expansion bus addresses run from 0 to 4 GiB - 1. -/
def Config.busSize : Nat := 4294967296

/-- Section 5 of 00_scope.md: bridge addresses run from 0 to 64 GiB - 1. -/
def Config.bridgeSize : Nat := 68719476736

/-- Section 5 of 00_scope.md: a block is an aligned 256-byte region. -/
def Config.blockSize : Nat := 256

/-- R2: the smallest window, 4 KiB; every base is a multiple of it. -/
def Config.pageSize : Nat := 4096

/-- R130: an input buffer holds up to 4 frames. -/
def Config.bufferSize : Nat := 4

/-- R61: the queue holds at most 16 entries. -/
def Config.queueLimit : Nat := 16

/-- R61: the queue holds at most 8 entries of one source port. -/
def Config.portQueueLimit : Nat := 8

/-- R67: an entry at freshness count 4 is acted on no more. -/
def Config.freshLimit : Nat := 4

/-- R161: a queue of this many ordinary records appends OVERFLOW instead. -/
def Config.recordLimit : Nat := 15

/-- R162: the count of an OVERFLOW record stops here. -/
def Config.overflowLimit : Nat := 255

/-- R43: the unit of the discard interval, in microseconds. -/
def Config.discardUnit : Nat := 16

/-- R43: the discard interval after device reset, in units of 16 microseconds. -/
def Config.discardIntervalReset : Nat := 2048

/-- R145: the lease interval after device reset, in milliseconds. -/
def Config.leaseIntervalReset : Nat := 250

/-- R121: the expansion timeout after device reset, in microseconds. -/
def Config.busTimeoutReset : Nat := 64

/-- R168, R180: the attention enable set that holds every record kind; the bit of a kind is at the
position of its code, 1 to 10. -/
def Config.allKinds : BitVec 16 := 0x07FE#16

/-- R168, R169: OVERFLOW, the kind of code 10, is always in the set. -/
def Config.overflowKind : BitVec 16 := 0x0400#16

/-- R182: DEVID, bytes 0-1 the vendor code, 2-3 the part number, 4 the revision. -/
def Config.vendorCode : Nat := 0x0A1D

/-- R182: the part number of DEVID. -/
def Config.partNumber : Nat := 4120

/-- R182: the revision of DEVID. -/
def Config.revision : Nat := 1

/-- FREE VALUE (assumption 16), a fresh one each time. R45 does not say whether the DISCARD (EXPIRED) record of an
expiry that releases the last reference of a DRAINING window precedes the WINDOW_CHANGED of R19 in the owner's queue. -/
opaque Config.expiryRecordFirst : Nat → Bool

/-- FREE VALUE (assumption 16). R31 does not say the same of DISCARD (RIGHTS). -/
opaque Config.refusalRecordFirst : Nat → Bool

/-- FREE VALUE (assumption 17), a fresh one each time. R143 leaves open whether a response that has been decided leaves
its port before the link goes down. -/
opaque Config.responseLeft : Nat → Bool

/-- FREE VALUE (assumption 18), a fresh one each time. R53, R102, R105 and R118 leave open whether a grant comes before an
event that takes away what the grant would go to. -/
opaque Config.grantFirst : Nat → Bool

end Sys2Proof
end

