-- ==== Sys2Proof/Syntax.lean ====
section
/-! DEFINITION. The commands of the broker: one constructor for each row of spec/opcode_table.json.

A row that is the TAKING of a frame by a Port Unit (R132) names the port; its address, count, value and
data are those of the oldest frame in that port's input buffer (assumption 2). The other rows are
events of the links, the local store, the expansion bus, the timers and the reset input. -/

namespace Sys2Proof

/-- The four ports, 0 to 3 (R124). -/
abbrev PortId := Fin 4

/-- The sixteen window indices (R2). -/
abbrev WindowId := Fin 16

/-- The fourteen tags of the Delayed Request Table (R26). -/
abbrev Tag := Fin 14

/-- A transaction number of the expansion bus, counted modulo 16 (R107, R109). -/
abbrev TransactionNumber := BitVec 4

/-- A frame as the link delivers it, whole: header, payload and CRC (10.1, R174). -/
abbrev Frame := List Byte

/-- R138: the three causes of a link down. -/
inductive LinkDownCause where
  | hostReset
  | loss
  | linkFault
  deriving DecidableEq, Repr

/-- R112: the two endings a target may send. -/
inductive TargetEnding where
  | ok
  | error
  deriving DecidableEq, Repr

/-- The commands, in the order of spec/opcode_table.json. -/
inductive Instr where
  /-- POWER_ON (R186). -/
  | powerOn
  /-- STORE_CLEARING_COMPLETE (R186). -/
  | storeClearingComplete
  /-- RESET_INPUT_ASSERTED (R185). -/
  | resetInputAsserted
  /-- RESET_INPUT_DEASSERTED (R185). -/
  | resetInputDeasserted
  /-- TIMEBASE_UNIT (R184). -/
  | timebaseUnit
  /-- LINK_UP at a port (R125). -/
  | linkUp (p : PortId)
  /-- LINK_DOWN of a port (R138). -/
  | linkDown (p : PortId) (cause : LinkDownCause)
  /-- FRAME_ARRIVAL at a port (R130). -/
  | frameArrival (p : PortId) (frame : Frame)
  /-- RESEND: the frame taken fails its CRC check (R128). -/
  | resend (p : PortId)
  /-- READ: the frame taken is a READ (R29). -/
  | read (p : PortId)
  /-- WRITE: the frame taken is a WRITE (R60). -/
  | write (p : PortId)
  /-- SWAP: the frame taken is a SWAP (R84). -/
  | swap (p : PortId)
  /-- JOIN: a PJOIN write with JOIN (R135). -/
  | join (p : PortId)
  /-- LEAVE: a PJOIN write with LEAVE (R136). -/
  | leave (p : PortId)
  /-- ACQUIRE: a CLAIM write with ACQUIRE (R147). -/
  | acquire (p : PortId)
  /-- RENEW: a CLAIM write with RENEW (R148). -/
  | renew (p : PortId)
  /-- RELEASE: a CLAIM write with RELEASE (R149). -/
  | release (p : PortId)
  /-- ENABLE: a WCOMMIT write with ENABLE (R15). -/
  | enable (p : PortId)
  /-- DISABLE: a WCOMMIT write with DISABLE (R17). -/
  | disable (p : PortId)
  /-- PURGE: a WCOMMIT write with PURGE (R20). -/
  | purge (p : PortId)
  /-- RIGHTS: a WCOMMIT write with RIGHTS (R22). -/
  | rights (p : PortId)
  /-- EVICT: an EVICT write (R154). -/
  | evict (p : PortId)
  /-- NOTICE: a NOTICE write (R166). -/
  | notice (p : PortId)
  /-- EVPOP: a CTL_READ of EVPOP (R163). -/
  | evpop (p : PortId)
  /-- ATTNEN: an ATTNEN write (R169). -/
  | attnen (p : PortId)
  /-- WSTG_HOST: a WSTG_HOST write (R11). -/
  | wstgHost (p : PortId)
  /-- WSTG_SIZE: a WSTG_SIZE write (R11). -/
  | wstgSize (p : PortId)
  /-- WSTG_DEST: a WSTG_DEST write (R11). -/
  | wstgDest (p : PortId)
  /-- WSTG_RIGHTS: a WSTG_RIGHTS write (R11). -/
  | wstgRights (p : PortId)
  /-- DISCARD_IV: a DISCARD_IV write (R43). -/
  | discardIv (p : PortId)
  /-- LEASE_IV: a LEASE_IV write (R153). -/
  | leaseIv (p : PortId)
  /-- XB_TIMEOUT: an XB_TIMEOUT write (R121). -/
  | xbTimeout (p : PortId)
  /-- WVIEW_SEL: a WVIEW_SEL write (R181). -/
  | wviewSel (p : PortId)
  /-- TVIEW_SEL: a TVIEW_SEL write (R57). -/
  | tviewSel (p : PortId)
  /-- CTL_WRITE: control decode of a frame that has no row of its own (R179; assumption 3). -/
  | ctlWrite (p : PortId)
  /-- LS_ACCESS_COMPLETION (R97). -/
  | lsAccessCompletion
  /-- ADDRESS_TAKEN by the target of a transaction (R107). -/
  | addressTaken (number : TransactionNumber)
  /-- WRITE_BEAT_TAKEN by the target of a transaction (R110). -/
  | writeBeatTaken (number : TransactionNumber)
  /-- READ_BEAT from the target of a transaction: the 8 bytes of the unit, by position (R111). -/
  | readBeat (number : TransactionNumber) (data : List Byte)
  /-- ENDING from the target of a transaction (R112). -/
  | ending (number : TransactionNumber) (how : TargetEnding)
  /-- EXPANSION_TIMEOUT of the transaction in progress (R113). -/
  | expansionTimeout
  /-- DISCARD_EXPIRY of the READY entry of a tag (R45). -/
  | discardExpiry (t : Tag)
  /-- LEASE_EXPIRY (R151). -/
  | leaseExpiry
  deriving DecidableEq, Repr

end Sys2Proof
end

