-- ==== Sys2Proof/WellFormed.lean ====
section
/-! DEFINITION. The one condition the types of the commands do not carry. Ports, tags, window indices and
transaction numbers are bounded by their types; a frame may be any bytes (R174 and R129 judge it when it
is taken). -/

namespace Sys2Proof

/-- A command the block can be sent: a read beat carries the 8 byte positions of its unit (R107, R111). -/
def Instr.wellFormed (i : Instr) : Bool :=
  match i with
  | .readBeat _ data => data.length == 8
  | _ => true

end Sys2Proof
end

