-- ==== Sys2Proof/Decode.lean ====
section
/-! DEFINITION. What the bytes of a request frame say: byte order (R173), the CRC (R174), the request header
(R175), the codes of the requests (R183), well-formedness (R129), the control space map (R178), and which
row of the command table the taking of a frame is. At the end the frames a host builds, and
`decodeTableWord`, which the table gives no bits for. -/

namespace Sys2Proof

/-! ## Byte order (R173) -/

/-- R173: the number that bytes stand for, least significant byte first. -/
def leNat : List Byte → Nat
  | [] => 0
  | b :: rest => b.toNat + 256 * leNat rest

/-- R173: a number as so many bytes, least significant byte first. -/
def leBytes : Nat → Nat → List Byte
  | 0, _ => []
  | k + 1, n => BitVec.ofNat 8 n :: leBytes k (n / 256)

/-- The number in the `n` bytes from byte `i` on. -/
def bytesAt (l : List Byte) (i n : Nat) : Nat :=
  leNat ((l.drop i).take n)

/-! ## The CRC (R174) -/

/-- One bit of the division by x^16 + x^12 + x^5 + 1. -/
def crcShift (c : BitVec 16) : BitVec 16 :=
  if c.msb then (c <<< 1) ^^^ 0x1021#16 else c <<< 1

/-- One byte, most significant bit first. -/
def crcByte (c : BitVec 16) (b : Byte) : BitVec 16 :=
  Nat.repeat crcShift 8 (c ^^^ (b.setWidth 16 <<< 8))

/-- R174: the register starts at FFFFh and no final inversion is applied. -/
def crc16 (bytes : List Byte) : BitVec 16 :=
  bytes.foldl crcByte 0xFFFF#16

/-- The bytes of a frame that precede its CRC. -/
def Frame.body (f : Frame) : List Byte :=
  f.take (f.length - 2)

/-- R174: a frame passes its integrity check when the CRC it carries equals the CRC computed over its
preceding bytes; a frame of fewer than 3 bytes fails. -/
def Frame.intact (f : Frame) : Bool :=
  3 ≤ f.length && leNat (f.drop (f.length - 2)) == (crc16 f.body).toNat

/-- A body with its CRC behind it, least significant byte first. -/
def Frame.seal (body : List Byte) : Frame :=
  body ++ leBytes 2 (crc16 body).toNat

/-! ## The request header (R175, R183) -/

/-- The five request kinds. -/
inductive RequestKind where
  | read
  | write
  | swap
  | ctlRead
  | ctlWrite
  deriving DecidableEq, Repr

/-- R183: the codes of the request kinds. -/
def RequestKind.code : RequestKind → Nat
  | .read => 1
  | .write => 2
  | .swap => 3
  | .ctlRead => 4
  | .ctlWrite => 5

/-- R183: a code absent from the group is not one of the five kinds. -/
def RequestKind.ofCode : Nat → Option RequestKind
  | 1 => some .read
  | 2 => some .write
  | 3 => some .swap
  | 4 => some .ctlRead
  | 5 => some .ctlWrite
  | _ => none

/-- R175: the header is 12 bytes, for a SWAP 28. -/
def RequestKind.headerLength : RequestKind → Nat
  | .swap => 28
  | _ => 12

/-- R174, R175: the request kind of a frame; none when the code is no kind or the frame is shorter than its
kind's header plus the CRC. -/
def Frame.kind (f : Frame) : Option RequestKind :=
  match RequestKind.ofCode (bytesAt f 0 1) with
  | some k => if k.headerLength + 2 ≤ f.length then some k else none
  | none => none

/-- R175: bytes 2-3, the byte count of a READ or WRITE and the length of a control request. -/
def Frame.count (f : Frame) : Nat :=
  bytesAt f 2 2

/-- R175: the low 36 bits of bytes 4-8. -/
def Frame.addr (f : Frame) : Nat :=
  bytesAt f 4 5 % Config.bridgeSize

/-- R175: bytes 4-5, the control offset. -/
def Frame.offset (f : Frame) : Nat :=
  bytesAt f 4 2

/-- R175: bytes 12-19 of a SWAP, first byte for the lowest address. -/
def Frame.compareValue (f : Frame) : List Byte :=
  (f.drop 12).take 8

/-- R175: bytes 20-27 of a SWAP. -/
def Frame.swapValue (f : Frame) : List Byte :=
  (f.drop 20).take 8

/-- R174: the bytes between the end of the header of kind `k` and the CRC. -/
def Frame.payload (f : Frame) (k : RequestKind) : List Byte :=
  f.body.drop k.headerLength

/-! ## Well-formedness (R129) -/

/-- R1: the bridge range of a READ or WRITE stays within one block. -/
def withinBlock (addr count : Nat) : Bool :=
  addr % Config.blockSize + count ≤ Config.blockSize

/-- R129: the byte count is 1 to 256 and the bridge range crosses no block boundary. -/
def Frame.rangeOk (f : Frame) : Bool :=
  1 ≤ f.count && f.count ≤ 256 && withinBlock f.addr f.count

/-- R129: the offset is a multiple of 8 and the length is 8 or 16. -/
def Frame.controlOk (f : Frame) : Bool :=
  f.offset % 8 == 0 && (f.count == 8 || f.count == 16)

/-- R129: the well-formed requests, kind by kind. -/
def Frame.wellFormed (f : Frame) : Bool :=
  match f.kind with
  | some .read => f.rangeOk && (f.payload .read).isEmpty
  | some .write => f.rangeOk && (f.payload .write).length == f.count
  | some .swap => f.addr % 8 == 0 && (f.payload .swap).isEmpty
  | some .ctlRead => f.controlOk && (f.payload .ctlRead).isEmpty
  | some .ctlWrite => f.controlOk && (f.payload .ctlWrite).length == f.count
  | none => false

/-! ## The control space map (R178) -/

/-- The registers of the map. -/
inductive Reg where
  | devid
  | pstat
  | pjoin
  | claim
  | evpop
  | evpeek
  | evcnt
  | attnen
  | notice
  | wstgHost
  | wstgSize
  | wstgDest
  | wstgRights
  | wcommit
  | wviewSel
  | wview
  | tviewSel
  | tview
  | qstat
  | discardIv
  | leaseIv
  | xbTimeout
  | evict
  deriving DecidableEq, Repr

/-- R178: the offset that names each register. -/
def Reg.offset : Reg → Nat
  | .devid => 0x000
  | .pstat => 0x008
  | .pjoin => 0x010
  | .claim => 0x018
  | .evpop => 0x020
  | .evpeek => 0x030
  | .evcnt => 0x040
  | .attnen => 0x048
  | .notice => 0x050
  | .wstgHost => 0x058
  | .wstgSize => 0x060
  | .wstgDest => 0x068
  | .wstgRights => 0x070
  | .wcommit => 0x078
  | .wviewSel => 0x080
  | .wview => 0x088
  | .tviewSel => 0x098
  | .tview => 0x0A0
  | .qstat => 0x0B0
  | .discardIv => 0x0B8
  | .leaseIv => 0x0C0
  | .xbTimeout => 0x0C8
  | .evict => 0x0D0

/-- R178: every register of the map, in its order. -/
def Reg.map : List Reg :=
  [.devid, .pstat, .pjoin, .claim, .evpop, .evpeek, .evcnt, .attnen, .notice, .wstgHost, .wstgSize,
   .wstgDest, .wstgRights, .wcommit, .wviewSel, .wview, .tviewSel, .tview, .qstat, .discardIv, .leaseIv,
   .xbTimeout, .evict]

/-- R178, R179 step 1: the register an offset names; the second half of a 16-byte register names none. -/
def Reg.ofOffset (n : Nat) : Option Reg :=
  Reg.map.find? (fun r => r.offset == n)

/-- R178: the width in bytes. -/
def Reg.width : Reg → Nat
  | .evpop => 16
  | .evpeek => 16
  | .wview => 16
  | .tview => 16
  | _ => 8

/-- R178: the registers whose access is R or R/W. -/
def Reg.readable : Reg → Bool
  | .pjoin => false
  | .notice => false
  | .wcommit => false
  | .evict => false
  | _ => true

/-- R178: the registers whose access is W or R/W. -/
def Reg.writable : Reg → Bool
  | .devid => false
  | .pstat => false
  | .evpop => false
  | .evpeek => false
  | .evcnt => false
  | .wview => false
  | .tview => false
  | .qstat => false
  | _ => true

/-- R152, R178: the registers whose writes are claim-required. -/
def Reg.claimRequired : Reg → Bool
  | .wcommit => true
  | .discardIv => true
  | .leaseIv => true
  | .xbTimeout => true
  | .evict => true
  | _ => false

/-! ## Which command the taking of a frame is -/

/-- The rows of the table that are the taking of a frame. -/
inductive TakeRow where
  | resend
  | read
  | write
  | swap
  | join
  | leave
  | acquire
  | renew
  | release
  | enable
  | disable
  | purge
  | rights
  | evict
  | notice
  | evpop
  | attnen
  | wstgHost
  | wstgSize
  | wstgDest
  | wstgRights
  | discardIv
  | leaseIv
  | xbTimeout
  | wviewSel
  | tviewSel
  | ctlWrite
  deriving DecidableEq, Repr

/-- R183: the PJOIN commands; another code has no row of its own. -/
def TakeRow.ofJoinCommand : Nat → TakeRow
  | 1 => .join
  | 2 => .leave
  | _ => .ctlWrite

/-- R183: the CLAIM commands. -/
def TakeRow.ofClaimCommand : Nat → TakeRow
  | 1 => .acquire
  | 2 => .renew
  | 3 => .release
  | _ => .ctlWrite

/-- R183: the WCOMMIT actions. -/
def TakeRow.ofCommitAction : Nat → TakeRow
  | 1 => .enable
  | 2 => .disable
  | 3 => .purge
  | 4 => .rights
  | _ => .ctlWrite

/-- The row of a well-formed CTL_WRITE: that of the register, and of the command or action its value names
(R180: byte 0 of PJOIN and CLAIM, byte 1 of WCOMMIT). -/
def TakeRow.ofWrite (r : Reg) (value : List Byte) : TakeRow :=
  match r with
  | .pjoin => TakeRow.ofJoinCommand (bytesAt value 0 1)
  | .claim => TakeRow.ofClaimCommand (bytesAt value 0 1)
  | .wcommit => TakeRow.ofCommitAction (bytesAt value 1 1)
  | .attnen => .attnen
  | .notice => .notice
  | .wstgHost => .wstgHost
  | .wstgSize => .wstgSize
  | .wstgDest => .wstgDest
  | .wstgRights => .wstgRights
  | .wviewSel => .wviewSel
  | .tviewSel => .tviewSel
  | .discardIv => .discardIv
  | .leaseIv => .leaseIv
  | .xbTimeout => .xbTimeout
  | .evict => .evict
  | _ => .ctlWrite

/-- The row that the taking of a frame is: RESEND for a frame that fails its integrity check (R128), then the
row of its kind, and CTL_WRITE for what has no row of its own (assumption 3). -/
def Frame.row (f : Frame) : TakeRow :=
  if f.intact then
    match f.kind with
    | some .read => .read
    | some .write => .write
    | some .swap => .swap
    | some .ctlRead =>
      if f.wellFormed && Reg.ofOffset f.offset == some .evpop then .evpop else .ctlWrite
    | some .ctlWrite =>
      match f.wellFormed, Reg.ofOffset f.offset with
      | true, some r => TakeRow.ofWrite r (f.payload .ctlWrite)
      | _, _ => .ctlWrite
    | none => .ctlWrite
  else .resend

/-! ## The frames a host builds (R175)

Ignored bytes are sent as zero, as the Caution of 10.4 advises. -/

/-- R175: the common header: kind, ignored, count or length, 5 bytes of address or offset, 3 ignored. -/
def requestHeader (k : RequestKind) (count addr : Nat) : List Byte :=
  leBytes 1 k.code ++ leBytes 1 0 ++ leBytes 2 count ++ leBytes 5 addr ++ leBytes 3 0

/-- A READ frame. -/
def readFrame (addr count : Nat) : Frame :=
  Frame.seal (requestHeader .read count addr)

/-- A WRITE frame. -/
def writeFrame (addr : Nat) (data : List Byte) : Frame :=
  Frame.seal (requestHeader .write data.length addr ++ data)

/-- A SWAP frame. -/
def swapFrame (addr : Nat) (compareValue swapValue : List Byte) : Frame :=
  Frame.seal (requestHeader .swap 0 addr ++ compareValue ++ swapValue)

/-- A CTL_READ frame. -/
def ctlReadFrame (offset length : Nat) : Frame :=
  Frame.seal (requestHeader .ctlRead length offset)

/-- A CTL_WRITE frame. -/
def ctlWriteFrame (offset : Nat) (value : List Byte) : Frame :=
  Frame.seal (requestHeader .ctlWrite value.length offset ++ value)

/-! ## Words of the command table -/

/-- The table of this block gives no bits for any row, so no word spells a command. -/
def decodeTableWord (_nbits _w : Nat) : Option Instr :=
  none

end Sys2Proof
end

