-- ==== Sys2Proof/Machine/State.lean ====
section
/-! DEFINITION. The state of the broker as plain data: the port records (R124), the Window Table (R2), the
Delayed Request Table (R26), the Posted Write Queue (R58), the Configuration Claim (R145), the local store and
its arbiter (R94, R98), the Expansion Bus Master and its arbiter (R108, R116), the reset input and the power-on
clearing (R185, R186), and the queue of waiting commands. -/

namespace Sys2Proof.Machine

/-! ## Windows (R2) -/

/-- R2: the two resources a window maps onto. -/
inductive Resource where
  | ls
  | xb
  deriving DecidableEq, Repr

/-- R2: what a port may do through a window; each value grants what the one before it grants, and more. -/
inductive Rights where
  | none
  | read
  | write
  | atomic
  deriving DecidableEq, Repr

/-- R2: one entry per port. -/
abbrev RightsList := Vector Rights 4

/-- R5: the three window states. -/
inductive WindowState where
  | disabled
  | enabled
  | draining
  deriving DecidableEq, Repr

/-- R2: one window descriptor; its index is its place in the table. -/
structure Window where
  state : WindowState
  bridgeBase : Nat
  size : Nat
  resource : Resource
  destBase : Nat
  rights : RightsList
  refCount : Nat
  deriving DecidableEq, Repr

/-- R4: a window after device reset. -/
def Window.reset : Window where
  state := .disabled
  bridgeBase := 0
  size := Config.pageSize
  resource := .ls
  destBase := 0
  rights := Vector.replicate 4 .none
  refCount := 0

/-- 1.7: the staging record of a port, four optional fields. -/
structure Staging where
  base : Option Nat
  size : Option Nat
  dest : Option (Resource × Nat)
  rights : Option RightsList
  deriving DecidableEq, Repr

/-- R13: every field absent. -/
def Staging.empty : Staging where
  base := Option.none
  size := Option.none
  dest := Option.none
  rights := Option.none

/-! ## The Delayed Request Table (R26) -/

/-- R87: how a compare-and-swap came out. -/
inductive SwapOutcome where
  | exchanged
  | notExchanged
  deriving DecidableEq, Repr

/-- R26, R39: what a fetch ended with. Data is present when the status is OK, the swap outcome for a SWAP. -/
inductive FetchResult where
  | ok (data : List Byte) (outcome : Option SwapOutcome)
  | targetError
  | targetTimeout
  deriving DecidableEq, Repr

/-- R26: the kind of the request that made an entry, a SWAP with its operands of 8 bytes each. -/
inductive EntryKind where
  | read
  | swap (compareValue swapValue : List Byte)
  deriving DecidableEq, Repr

/-- R26, R27: the state of an entry that is not FREE, with the fields that are present in it. -/
inductive Phase where
  | waiting (writesAhead : Nat)
  | fetching (refetchAfter : Option Nat)
  | ready (result : FetchResult) (discardRemaining : Nat)
  | orphaned
  deriving DecidableEq, Repr

/-- R26: one DRT entry that is not FREE; the entries stand in allocation order (assumption 7). -/
structure Entry where
  tag : Tag
  owner : PortId
  kind : EntryKind
  addr : Nat
  count : Nat
  window : WindowId
  resource : Resource
  dest : Nat
  fresh : Nat
  phase : Phase
  deriving DecidableEq, Repr

/-! ## The Posted Write Queue (R58) -/

/-- R58: one accepted write; its byte count is the length of its data. -/
structure PostedWrite where
  sequence : BitVec 16
  source : PortId
  window : WindowId
  addr : Nat
  resource : Resource
  dest : Nat
  data : List Byte
  inFlight : Bool
  deriving DecidableEq, Repr

/-! ## The Configuration Claim (R145) -/

/-- R145: the holder and the lease that runs while the claim is held, 1 to 1,000,000 microseconds. `due` is the model's
own: the unit that ends the lease has come, and the claim has not yet taken its expiry (assumption 4). -/
structure Holding where
  holder : PortId
  remaining : Nat
  due : Bool
  deriving DecidableEq, Repr

/-- R145: the claim record; the lease interval is in milliseconds. -/
structure Claim where
  held : Option Holding
  interval : Nat
  deriving DecidableEq, Repr

/-- R145: the claim record at device reset. -/
def Claim.reset : Claim where
  held := Option.none
  interval := Config.leaseIntervalReset

/-! ## The local store (R94, R98) -/

/-- R94: the contents of the store, a list of (offset, byte) in one canonical form: offsets strictly rising,
all below 524,288, and no byte 0, which is what an unlisted offset reads as (assumption 8). -/
abbrev Memory := List Host.Cell

/-- R98: the six positions of the Local Store Arbiter. -/
inductive Position where
  | port (p : PortId)
  | drain
  | fetch
  deriving DecidableEq, Repr

/-! ## The Expansion Bus Master (R107, R108, R116) -/

/-- R108: the two streams the expansion bus serves. -/
inductive Stream where
  | drain
  | fetch
  deriving DecidableEq, Repr

/-- R107: the three phases of a transaction. -/
inductive BusPhase where
  | address
  | data
  | ending
  deriving DecidableEq, Repr

/-- R108: the items present while the bus is ACTIVE. -/
structure Transaction where
  stream : Stream
  address : Nat
  count : Nat
  number : TransactionNumber
  phase : BusPhase
  beatsDone : Nat
  readData : List Byte
  remaining : Nat
  deriving DecidableEq, Repr

/-- R108: the bus state, with the current transaction while it is ACTIVE. -/
inductive BusState where
  | idle
  | active (t : Transaction)
  | reset
  deriving DecidableEq, Repr

/-- R108, R116: the state of the master and of its arbiter. -/
structure Xbm where
  bus : BusState
  lastNumber : TransactionNumber
  timeout : Nat
  lastStream : Stream
  deriving DecidableEq, Repr

/-- R108, R116: the master in the bus state given, every other item at its device-reset value. -/
def Xbm.reset (bus : BusState) : Xbm where
  bus := bus
  lastNumber := 0
  timeout := Config.busTimeoutReset
  lastStream := .fetch

/-- What the broker drives on the expansion bus, as items of an output trace (assumption 5): the ADDRESS phase
of a transaction (R109), a write beat with its positions and their bytes (R110), the abort indication (R113). -/
inductive BusItem where
  | address (stream : Stream) (address count : Nat) (number : TransactionNumber)
  | beat (number : TransactionNumber) (unitAddress : Nat) (bytes : List (Nat × Byte))
  | abort
  deriving DecidableEq, Repr

/-! ## Event records (R159) -/

/-- R159: the causes of a DISCARD record. -/
inductive DiscardCause where
  | expired
  | purged
  | rights
  deriving DecidableEq, Repr

/-- R159: the causes of a write fault. -/
inductive FaultCause where
  | error
  | timeout
  deriving DecidableEq, Repr

/-- R159: the causes of a PORT_LEFT record. -/
inductive LeaveCause where
  | leave
  | link
  | evicted
  deriving DecidableEq, Repr

/-- R159: the ten record kinds with their fields. In a DISCARD, `swapPerformed` is present for a SWAP alone. -/
inductive Record where
  | notice (source : PortId) (payload : BitVec 32)
  | discard (tag : Tag) (addr count : Nat) (cause : DiscardCause) (swapPerformed : Option Bool)
  | writeFault (sequence : BitVec 16) (addr count : Nat) (window : WindowId) (cause : FaultCause)
  | orphanFault (sequence : BitVec 16) (addr count : Nat) (window : WindowId) (cause : FaultCause)
      (source : PortId)
  | claimExpired
  | claimFreed (former : PortId)
  | windowChanged (window : WindowId) (state : WindowState)
  | portJoined (port : PortId)
  | portLeft (port : PortId) (cause : LeaveCause)
  | overflow (count : Nat)
  deriving DecidableEq, Repr

/-! ## Responses (R127) -/

/-- R127, R183: the RETRY reasons. -/
inductive RetryReason where
  | pending
  | noSlot
  | queueFull
  deriving DecidableEq, Repr

/-- R183: the REFUSED reasons. -/
inductive RefusedReason where
  | malformed
  | notJoined
  | noWindow
  | denied
  | notSupported
  | targetError
  | targetTimeout
  | unknownOffset
  | wrongAccess
  | notHolder
  | claimed
  | wrongState
  | badValue
  | overlap
  | portAbsent
  deriving DecidableEq, Repr

/-- R127: the five response kinds with their fields. -/
inductive Response where
  | data (payload : List Byte) (outcome : Option SwapOutcome)
  | done (sequence : Option (BitVec 16))
  | retry (reason : RetryReason)
  | refused (reason : RefusedReason)
  | resend
  deriving DecidableEq, Repr

/-- What a port sends its host, as items of an output trace (assumption 5): a response, or the link-down
indication that names LINK_FAULT (R131). -/
inductive LinkItem where
  | response (r : Response)
  | linkFault
  deriving DecidableEq, Repr

/-! ## Ports (R124) -/

/-- R124: the three port states. -/
inductive PortState where
  | offline
  | attached
  | online
  deriving DecidableEq, Repr

/-- R103: the immediate read that stays in hand: its translated offset in the store and its byte count. -/
structure ReadInHand where
  offset : Nat
  count : Nat
  deriving DecidableEq, Repr

/-- R132: the request in hand between two commands: an immediate read whose access has not completed (R103), or a
request whose response has been decided and has not yet left (R138, R143). -/
inductive InHand where
  | read (r : ReadInHand)
  | decided (r : Response)
  deriving DecidableEq, Repr

/-- R124: the record of a Port Unit. -/
structure Port where
  state : PortState
  buffer : List Frame
  inHand : Option InHand
  dropped : Bool
  staging : Staging
  wviewSel : WindowId
  tviewSel : Tag
  attnEnable : BitVec 16
  queue : List Record
  sent : List LinkItem
  deriving DecidableEq, Repr

/-- R124, R144, R168, R172: a port after device reset, with what it has sent so far. -/
def Port.reset (sent : List LinkItem) : Port where
  state := .offline
  buffer := []
  inHand := Option.none
  dropped := false
  staging := Staging.empty
  wviewSel := 0
  tviewSel := 0
  attnEnable := Config.allKinds
  queue := []
  sent := sent

/-! ## The machine -/

/-- Every piece of state the manual gives the broker, the two output traces, the number of open choices made so far
(assumptions 16 and 17), and the queue of commands. -/
structure State where
  ports : Vector Port 4
  windows : Vector Window 16
  drt : List Entry
  discardInterval : Nat
  pwq : List PostedWrite
  lastSequence : BitVec 16
  claim : Claim
  mem : Memory
  store : Option Position
  lastPosition : Position
  xbm : Xbm
  resetInput : Bool
  clearing : Bool
  busItems : List BusItem
  choices : Nat
  pending : List Instr
  deriving DecidableEq, Repr

/-- The broker right after the device reset of power-on has ended: the store cleared (R94), the reset input
deasserted, the expansion bus IDLE (R108), every table and queue at its device-reset value (assumption 9). -/
def State.reset : State where
  ports := Vector.replicate 4 (Port.reset [])
  windows := Vector.replicate 16 Window.reset
  drt := []
  discardInterval := Config.discardIntervalReset
  pwq := []
  lastSequence := 0
  claim := Claim.reset
  mem := []
  store := Option.none
  lastPosition := .fetch
  xbm := Xbm.reset .idle
  resetInput := false
  clearing := false
  busItems := []
  choices := 0
  pending := []

/-! ## Stops -/

/-- The one way a command stops. -/
inductive Fault where
  /-- Raised by LS_ACCESS_COMPLETION when the bytes of the access run outside the 524,288 bytes of the store.
  R95 says no access does, so no run reaches it; safe. -/
  | storeRange
  deriving DecidableEq, Repr

/-- Refusals of the model. -/
inductive Refusal where
  /-- Raised by exec for a command that has no meaning yet; safe. -/
  | notModelled (mnemonic : String)
  deriving DecidableEq, Repr

end Sys2Proof.Machine
end

