-- ==== Sys2Proof/Machine/Memory.lean ====
section
/-! DEFINITION. The contents of the local store (R94, R96): one byte read, one byte written, and ranges of
bytes in address order. -/

namespace Sys2Proof.Machine

/-- R94: what an unlisted offset reads as; power-on sets every byte to 0. -/
def Memory.blank : Byte := 0

/-- The byte at an offset. -/
def Memory.read : Memory → Nat → Byte
  | [], _ => Memory.blank
  | (k, v) :: rest, a => if k = a then v else Memory.read rest a

/-- Puts one byte in front of a list that holds offsets above `a`, unless it is what an unlisted offset
reads as. -/
def Memory.cons (a : Nat) (b : Byte) (rest : Memory) : Memory :=
  if b = Memory.blank then rest else (a, b) :: rest

/-- Sets the byte at an offset, keeping the canonical form. -/
def Memory.write : Memory → Nat → Byte → Memory
  | [], a, b => Memory.cons a b []
  | (k, v) :: rest, a, b =>
    if a < k then Memory.cons a b ((k, v) :: rest)
    else if a = k then Memory.cons a b rest
    else (k, v) :: Memory.write rest a b

/-- The `n` bytes from offset `a` on, in address order. -/
def Memory.readRange (m : Memory) (a n : Nat) : List Byte :=
  (List.range' a n).map m.read

/-- Sets the bytes from offset `a` on, the first at `a`. -/
def Memory.writeBytes : Memory → Nat → List Byte → Memory
  | m, _, [] => m
  | m, a, b :: rest => Memory.writeBytes (m.write a b) (a + 1) rest

/-- The canonical form: offsets strictly rising from `from_` on and inside the store, no listed byte equal
to what an unlisted offset reads as. -/
def Memory.wfFrom : Nat → Memory → Bool
  | _, [] => true
  | low, (k, v) :: rest =>
    low ≤ k && k < Config.storeSize && v != Memory.blank && Memory.wfFrom (k + 1) rest

/-- The canonical form of the store's contents. -/
def Memory.wf (m : Memory) : Bool :=
  Memory.wfFrom 0 m

end Sys2Proof.Machine
end

