-- ==== Sys2Proof/Machine/Flags.lean ====
section
/-! DEFINITION. The levels and counts the manual defines as functions of the state: device reset in force
(R185, R186), the attention lines (R170), the bus reset output (R123), the offered links (R125), the credits
of a host (R130), the charges (R33), the queue counts (R58) and the requests at the two arbiters (R99, R116).
They are computed, so that each law that defines them has one home (assumption 6). -/

namespace Sys2Proof.Machine

/-- The record of a port. -/
def State.port (s : State) (p : PortId) : Port :=
  s.ports[p]

/-- The descriptor of a window. -/
def State.window (s : State) (w : WindowId) : Window :=
  s.windows[w]

/-! ## Reset (R185, R186) -/

/-- R185: device reset is in force while the reset input is asserted, and at power-on until the clearing of the
store is complete. -/
def State.inReset (s : State) : Bool :=
  s.resetInput || s.clearing

/-- R123: the bus reset output is driven for as long as device reset lasts. -/
def State.busResetOutput (s : State) : Bool :=
  s.inReset

/-! ## Ports -/

/-- R133: the port state in which every request is served. -/
def Port.online (port : Port) : Bool :=
  port.state == .online

/-- Whether a port is ONLINE. -/
def State.online (s : State) (p : PortId) : Bool :=
  (s.port p).online

/-- R125: an OFFLINE port offers its link whenever device reset is not in force. -/
def State.linkOffered (s : State) (p : PortId) : Bool :=
  (s.port p).state == .offline && !s.inReset

/-- R130: a credit is spent by each frame sent and regained with each response, so the host holds four less
the frames in the buffer. -/
def Port.credits (port : Port) : Nat :=
  Config.bufferSize - port.buffer.length

/-- R103: the immediate read a port holds. -/
def Port.readInHand (port : Port) : Option ReadInHand :=
  match port.inHand with
  | some (.read r) => some r
  | _ => none

/-- R138, R143: the response a port has decided that has not yet left. -/
def Port.decided (port : Port) : Option Response :=
  match port.inHand with
  | some (.decided r) => some r
  | _ => none

/-- R183: the code of a record's kind. -/
def Record.code : Record → Nat
  | .notice .. => 1
  | .discard .. => 2
  | .writeFault .. => 3
  | .orphanFault .. => 4
  | .claimExpired => 5
  | .claimFreed .. => 6
  | .windowChanged .. => 7
  | .portJoined .. => 8
  | .portLeft .. => 9
  | .overflow .. => 10

/-- R168: whether the kind of a record is in an attention enable set. -/
def kindEnabled (enabled : BitVec 16) (r : Record) : Bool :=
  enabled.getLsbD r.code

/-- R170: the attention line is asserted exactly when the port is ONLINE and its queue holds a record of a kind
in its enable set. -/
def Port.attention (port : Port) : Bool :=
  port.online && port.queue.any (kindEnabled port.attnEnable)

/-- R170: the attention line of a port. -/
def State.attention (s : State) (p : PortId) : Bool :=
  (s.port p).attention

/-! ## Counts -/

/-- R33: the number of entries owned by a port that are not FREE. -/
def State.charge (s : State) (p : PortId) : Nat :=
  s.drt.countP (fun e => e.owner == p)

/-- R33: the sum of h_q - 2 over the ports whose charge is above 2. -/
def State.sharedCharge (s : State) : Nat :=
  (s.charge 0 - 2) + (s.charge 1 - 2) + (s.charge 2 - 2) + (s.charge 3 - 2)

/-- R58: the number of entries a port has in the Posted Write Queue. -/
def State.queueCount (s : State) (p : PortId) : Nat :=
  s.pwq.countP (fun w => w.source == p)

/-- R145: whether a port holds the claim. -/
def State.holds (s : State) (p : PortId) : Bool :=
  match s.claim.held with
  | some h => h.holder == p
  | none => false

/-! ## Requests at the arbiters -/

/-- R36: WAITING, writes-ahead 0, destination resource `r`. -/
def Entry.eligible (r : Resource) (e : Entry) : Bool :=
  e.resource == r && e.phase == .waiting 0

/-- R37: FETCHING or ORPHANED with destination resource `r`. -/
def Entry.occupies (r : Resource) (e : Entry) : Bool :=
  e.resource == r &&
    match e.phase with
    | .fetching _ => true
    | .orphaned => true
    | _ => false

/-- R37: the fetch stream requests while an entry is eligible and none is FETCHING or ORPHANED. -/
def State.fetchRequests (s : State) (r : Resource) : Bool :=
  s.drt.any (Entry.eligible r) && !s.drt.any (Entry.occupies r)

/-- R69: the drain stream requests while the head is destined for `r` and is not in flight. -/
def State.drainRequests (s : State) (r : Resource) : Bool :=
  match s.pwq with
  | [] => false
  | h :: _ => h.resource == r && !h.inFlight

/-- R99: the condition under which each position of the Local Store Arbiter requests. A port's does while its immediate
read has not been granted: not while its own access is in progress, whether that of this read or a dropped one. -/
def State.positionRequests (s : State) : Position → Bool
  | .port p => (s.port p).readInHand.isSome && !(s.port p).dropped && s.store != some (.port p)
  | .drain => s.drainRequests .ls
  | .fetch => s.fetchRequests .ls

end Sys2Proof.Machine
end

