-- ==== Sys2Proof/Machine/Arbiters.lean ====
section
/-! DEFINITION. The two arbiters: the Local Store Arbiter (R98 to R100) and the Expansion Arbiter (R116, R117), what a grant
starts (R37, R70, R109), and the order of a grant and an event that takes away what it would go to (R24, R53, R102, R105,
R118, R143). -/

namespace Sys2Proof.Machine

/-- The next open choice is made (assumptions 16 to 18). -/
def State.choose (s : State) : State :=
  { s with choices := s.choices + 1 }

/-- Gives the entry of a tag another state. -/
def State.setPhase (s : State) (t : Tag) (phase : Phase) : State :=
  { s with drt := s.drt.map (fun e => if e.tag = t then { e with phase := phase } else e) }

/-! ## The Local Store Arbiter (R98 to R100) -/

/-- R100: the six positions in the order of the cycle. -/
def positionCycle : List Position :=
  [.port 0, .port 1, .port 2, .port 3, .drain, .fetch]

/-- R98: the place of a position in the cycle. -/
def Position.place : Position → Nat
  | .port p => p.val
  | .drain => 4
  | .fetch => 5

/-- R100: the cycle from the position that follows `last`, `last` itself at the end. -/
def cycleAfter (last : Position) : List Position :=
  positionCycle.drop (last.place + 1) ++ positionCycle.take (last.place + 1)

/-- R70: the head's in flight becomes yes. -/
def State.startDrain (s : State) : State :=
  match s.pwq with
  | [] => s
  | h :: rest => { s with pwq := { h with inFlight := true } :: rest }

/-- R37: the oldest eligible entry of a resource becomes FETCHING. -/
def State.startFetch (s : State) (r : Resource) : State :=
  match s.drt.find? (Entry.eligible r) with
  | some e => s.setPhase e.tag (.fetching none)
  | none => s

/-- R100: a position is granted, and its access begins. -/
def State.grantPosition (s : State) (pos : Position) : State :=
  let s := { s with store := some pos, lastPosition := pos }
  match pos with
  | .port _ => s
  | .drain => s.startDrain
  | .fetch => s.startFetch .ls

/-- R100, R186: a grant is made whenever the store is FREE, device reset is not in force, and a position
requests: to the first that follows the last-granted position in the cycle. -/
def State.grantStore (s : State) : State :=
  if s.store.isSome || s.inReset then s
  else
    match (cycleAfter s.lastPosition).find? s.positionRequests with
    | some pos => s.grantPosition pos
    | none => s

/-! ## The Expansion Arbiter (R116, R117) -/

/-- R109: a transaction starts for the stream granted, with the next number and a fresh timeout, and presents
its ADDRESS phase. -/
def State.startTransaction (s : State) (stream : Stream) (address count : Nat) : State :=
  let number := s.xbm.lastNumber + 1
  { s with
    xbm :=
      { s.xbm with
        bus := .active
          { stream := stream, address := address, count := count, number := number, phase := .address
            beatsDone := 0, readData := [], remaining := s.xbm.timeout }
        lastNumber := number
        lastStream := stream }
    busItems := s.busItems ++ [.address stream address count number] }

/-- R117: the stream a grant goes to; when both request, the one that is not the last granted. -/
def chooseStream (drain fetch : Bool) (last : Stream) : Option Stream :=
  match drain, fetch, last with
  | true, true, .fetch => some .drain
  | true, true, .drain => some .fetch
  | true, false, _ => some .drain
  | false, true, _ => some .fetch
  | false, false, _ => none

/-- R109: the transaction of the stream granted, from the PWQ head or the oldest eligible XB entry. -/
def State.grantStream (s : State) (stream : Stream) : State :=
  match stream with
  | .drain =>
    match s.pwq with
    | h :: _ => s.startDrain.startTransaction .drain h.dest h.data.length
    | [] => s
  | .fetch =>
    match s.drt.find? (Entry.eligible .xb) with
    | some e => (s.startFetch .xb).startTransaction .fetch e.dest e.count
    | none => s

/-- R117: a grant is made when the bus state is IDLE and a stream requests. -/
def State.grantBus (s : State) : State :=
  match s.xbm.bus with
  | .idle =>
    match chooseStream (s.drainRequests .xb) (s.fetchRequests .xb) s.xbm.lastStream with
    | some stream => s.grantStream stream
    | none => s
  | _ => s

/-! ## When a grant is made -/

/-- R100, R117: the grants at both arbiters. They are made at once when a request arises at an idle resource: before the
next command does anything (assumption 11). -/
def State.settle (s : State) : State :=
  s.grantStore.grantBus

/-- What a grant goes to: a port's immediate read, the write at the head of the queue, or an entry of the table. -/
inductive Grantee where
  | read (p : PortId)
  | write
  | entry (e : Entry)
  deriving DecidableEq, Repr

/-- R100: what a position's grant goes to. -/
def State.positionGrantee (s : State) : Position → Option Grantee
  | .port p => some (.read p)
  | .drain => some .write
  | .fetch => (s.drt.find? (Entry.eligible .ls)).map .entry

/-- R109: what a stream's grant goes to. -/
def State.streamGrantee (s : State) : Stream → Option Grantee
  | .drain => some .write
  | .fetch => (s.drt.find? (Entry.eligible .xb)).map .entry

/-- R100: what the grant goes to that is due at the store, if one is. -/
def State.storeGrantee (s : State) : Option Grantee :=
  if s.store.isSome || s.inReset then none
  else ((cycleAfter s.lastPosition).find? s.positionRequests).bind s.positionGrantee

/-- R117: what the grant goes to that is due at the bus, if one is. -/
def State.busGrantee (s : State) : Option Grantee :=
  match s.xbm.bus with
  | .idle =>
    (chooseStream (s.drainRequests .xb) (s.fetchRequests .xb) s.xbm.lastStream).bind s.streamGrantee
  | _ => none

/-- R53: one grant that is due, before an event: where the event takes away what it goes to, `first` says which comes
first. -/
def State.grantBefore (s : State) (lost : Bool) (first : Nat → Bool) (grant : State → State) : State :=
  if lost then (if first s.choices then grant s.choose else s.choose) else grant s

/-- R24, R53, R102, R105, R118: the grants that are due, before an event that takes away what `lost` names. A grant to
something else is made; one to that may come before the event or after, which is left open (assumption 18). -/
def State.grantsBefore (s : State) (lost : Grantee → Bool) (first : Nat → Bool := Config.grantFirst) : State :=
  (s.grantBefore (s.storeGrantee.any lost) first State.grantStore).grantBefore (s.busGrantee.any lost) first State.grantBus

/-- R50: the entries of a port. -/
def Grantee.ownedBy (p : PortId) : Grantee → Bool
  | .entry e => e.owner == p
  | _ => false

/-- R21: the entries of a window. -/
def Grantee.ofWindow (w : WindowId) : Grantee → Bool
  | .entry e => e.window == w
  | _ => false

end Sys2Proof.Machine
end

