-- ==== Sys2Proof/Machine/Operands.lean ====
section
/-! DEFINITION. What the values written to the control registers say (R180), with the codes of R183, and the
rights a request needs (R9). -/

namespace Sys2Proof.Machine

/-! ## Codes of written fields (R183) -/

/-- R183: the resource codes. -/
def Resource.ofCode : Nat → Option Resource
  | 0 => some .ls
  | 1 => some .xb
  | _ => none

/-- R183: the rights codes; every value of two bits is one. -/
def Rights.ofCode : Nat → Rights
  | 0 => .none
  | 1 => .read
  | 2 => .write
  | _ => .atomic

/-! ## Rights (1.6, R9) -/

/-- R9: a READ needs READ, WRITE or ATOMIC. -/
def Rights.allowsRead : Rights → Bool
  | .none => false
  | _ => true

/-- R9: a WRITE needs WRITE or ATOMIC. -/
def Rights.allowsWrite : Rights → Bool
  | .write => true
  | .atomic => true
  | _ => false

/-- R9: a SWAP needs ATOMIC. -/
def Rights.allowsSwap : Rights → Bool
  | .atomic => true
  | _ => false

/-- R9, R10: the rights a READ or a SWAP needs. -/
def Rights.allows (r : Rights) : EntryKind → Bool
  | .read => r.allowsRead
  | .swap _ _ => r.allowsSwap

/-! ## Staged values (1.7, R11, R180) -/

/-- R2: a power of two from 4 KiB to 4 GiB. -/
def isWindowSize (n : Nat) : Bool :=
  (List.range 21).any (fun k => n == 2 ^ (k + 12))

/-- R180: bytes 0-6 of WSTG_HOST; refused unless a multiple of 4096 and at most 64 GiB - 4 KiB. -/
def stagedBase (value : List Byte) : Option Nat :=
  let n := bytesAt value 0 7
  if n % Config.pageSize == 0 && n ≤ Config.bridgeSize - Config.pageSize then some n else none

/-- R180: bytes 0-6 of WSTG_SIZE; refused unless a power of two from 4 KiB to 4 GiB. -/
def stagedSize (value : List Byte) : Option Nat :=
  let n := bytesAt value 0 7
  if isWindowSize n then some n else none

/-- R2: the bytes of a resource. -/
def Resource.size : Resource → Nat
  | .ls => Config.storeSize
  | .xb => Config.busSize

/-- R180: bytes 0-5 of WSTG_DEST the base, byte 6 the resource; refused unless the resource code is LS or XB
and the base is a multiple of 4096 within the range of R11 for that resource. -/
def stagedDest (value : List Byte) : Option (Resource × Nat) :=
  let n := bytesAt value 0 6
  match Resource.ofCode (bytesAt value 6 1) with
  | some r =>
    if n % Config.pageSize == 0 && n ≤ r.size - Config.pageSize then some (r, n) else none
  | none => none

/-- R180: byte 0 of WSTG_RIGHTS, the rights code of port k in bits 2k and 2k+1. -/
def stagedRights (value : List Byte) : RightsList :=
  let n := bytesAt value 0 1
  Vector.ofFn (fun k : Fin 4 => Rights.ofCode (n / 4 ^ k.val % 4))

/-! ## Other registers (R180) -/

/-- R180: byte 0 of WCOMMIT and of WVIEW_SEL, the window index; none above 15. -/
def windowIndex (value : List Byte) : Option WindowId :=
  if h : bytesAt value 0 1 < 16 then some ⟨bytesAt value 0 1, h⟩ else none

/-- R180, R57: byte 0 of TVIEW_SEL, a tag; none above 13. -/
def selectedTag (value : List Byte) : Option Tag :=
  if h : bytesAt value 0 1 < 14 then some ⟨bytesAt value 0 1, h⟩ else none

/-- R180: byte 0 of NOTICE and of EVICT, the target port; none above 3. -/
def targetPort (value : List Byte) : Option PortId :=
  if h : bytesAt value 0 1 < 4 then some ⟨bytesAt value 0 1, h⟩ else none

/-- R180: bytes 4-7 of NOTICE, the payload. -/
def noticePayload (value : List Byte) : BitVec 32 :=
  BitVec.ofNat 32 (bytesAt value 4 4)

/-- R180: bytes 0-1 of DISCARD_IV, LEASE_IV and XB_TIMEOUT. -/
def settingValue (value : List Byte) : Nat :=
  bytesAt value 0 2

/-- R180: bytes 0-1 of ATTNEN, the set-list. -/
def setList (value : List Byte) : BitVec 16 :=
  BitVec.ofNat 16 (bytesAt value 0 2)

/-- R180: bytes 2-3 of ATTNEN, the clear-list. -/
def clearList (value : List Byte) : BitVec 16 :=
  BitVec.ofNat 16 (bytesAt value 2 2)

/-- R169, R180: a list with bit 0 or any bit from 11 to 15 set names a value that is no record kind. -/
def kindsOnly (list : BitVec 16) : Bool :=
  list &&& ~~~Config.allKinds == 0

/-- R169: the old set with the set-list added, then the clear-list removed, then OVERFLOW put back in. -/
def updateKinds (old set clear : BitVec 16) : BitVec 16 :=
  ((old ||| set) &&& ~~~clear) ||| Config.overflowKind

end Sys2Proof.Machine
end

