-- ==== Sys2Proof/Machine/Layout.lean ====
section
/-! DEFINITION. What the broker sends, byte by byte: the codes of R183, response frames (R176), event records
(R177), and every readable control register (R180, R181, R182). -/

namespace Sys2Proof.Machine

/-! ## Codes (R183) -/

/-- R183: response kinds. -/
def Response.kindCode : Response → Nat
  | .data .. => 1
  | .done _ => 2
  | .retry _ => 3
  | .refused _ => 4
  | .resend => 5

/-- R183: RETRY reasons. -/
def RetryReason.code : RetryReason → Nat
  | .pending => 1
  | .noSlot => 2
  | .queueFull => 3

/-- R183: REFUSED reasons. -/
def RefusedReason.code : RefusedReason → Nat
  | .malformed => 1
  | .notJoined => 2
  | .noWindow => 3
  | .denied => 4
  | .notSupported => 5
  | .targetError => 6
  | .targetTimeout => 7
  | .unknownOffset => 8
  | .wrongAccess => 9
  | .notHolder => 10
  | .claimed => 11
  | .wrongState => 12
  | .badValue => 13
  | .overlap => 14
  | .portAbsent => 15

/-- R183: DISCARD causes. -/
def DiscardCause.code : DiscardCause → Nat
  | .expired => 1
  | .purged => 2
  | .rights => 3

/-- R183: fault causes. -/
def FaultCause.code : FaultCause → Nat
  | .error => 1
  | .timeout => 2

/-- R183: PORT_LEFT causes. -/
def LeaveCause.code : LeaveCause → Nat
  | .leave => 1
  | .link => 2
  | .evicted => 3

/-- R183: swap outcomes. -/
def SwapOutcome.code : SwapOutcome → Nat
  | .exchanged => 1
  | .notExchanged => 2

/-- R183: port states. -/
def PortState.code : PortState → Nat
  | .offline => 0
  | .attached => 1
  | .online => 2

/-- R183: window states. -/
def WindowState.code : WindowState → Nat
  | .disabled => 0
  | .enabled => 1
  | .draining => 2

/-- R183: entry states; FREE is 0. -/
def Phase.code : Phase → Nat
  | .waiting _ => 1
  | .fetching _ => 2
  | .ready .. => 3
  | .orphaned => 4

/-- R183: resources. -/
def Resource.code : Resource → Nat
  | .ls => 0
  | .xb => 1

/-- R183: rights. -/
def Rights.code : Rights → Nat
  | .none => 0
  | .read => 1
  | .write => 2
  | .atomic => 3

/-- R183: the request kind of an entry. -/
def EntryKind.code : EntryKind → Nat
  | .read => 1
  | .swap .. => 3

/-! ## Response frames (R176) -/

/-- R176: the 8-byte header and the payload. -/
def Response.bytes : Response → List Byte
  | .data payload outcome =>
    leBytes 1 1 ++ leBytes 1 0 ++ leBytes 2 payload.length ++ leBytes 2 0 ++
      leBytes 1 ((outcome.map SwapOutcome.code).getD 0) ++ leBytes 1 0 ++ payload
  | .done sequence =>
    leBytes 1 2 ++ leBytes 3 0 ++ leBytes 2 ((sequence.map BitVec.toNat).getD 0) ++ leBytes 2 0
  | .retry reason => leBytes 1 3 ++ leBytes 1 reason.code ++ leBytes 6 0
  | .refused reason => leBytes 1 4 ++ leBytes 1 reason.code ++ leBytes 6 0
  | .resend => leBytes 1 5 ++ leBytes 7 0

/-- R174, R176: the response frame as it leaves on the link, with its CRC. -/
def Response.frame (r : Response) : Frame :=
  Frame.seal r.bytes

/-! ## Event records (R177) -/

/-- R177: the performed byte of a DISCARD: 0 for a READ, 1 no and 2 yes for a SWAP. -/
def performedCode : Option Bool → Nat
  | none => 0
  | some false => 1
  | some true => 2

/-- R177: the 16 bytes of a record. -/
def Record.bytes (r : Record) : List Byte :=
  match r with
  | .notice source payload =>
    leBytes 1 r.code ++ leBytes 1 source.val ++ leBytes 6 0 ++ leBytes 4 payload.toNat ++ leBytes 4 0
  | .discard tag addr count cause swapPerformed =>
    leBytes 1 r.code ++ leBytes 1 0 ++ leBytes 1 cause.code ++ leBytes 1 tag.val ++
      leBytes 1 (if swapPerformed.isSome then 3 else 1) ++ leBytes 1 (performedCode swapPerformed) ++
      leBytes 2 count ++ leBytes 5 addr ++ leBytes 3 0
  | .writeFault sequence addr count window cause =>
    leBytes 1 r.code ++ leBytes 1 0 ++ leBytes 1 cause.code ++ leBytes 1 window.val ++
      leBytes 2 sequence.toNat ++ leBytes 2 count ++ leBytes 5 addr ++ leBytes 3 0
  | .orphanFault sequence addr count window cause source =>
    leBytes 1 r.code ++ leBytes 1 source.val ++ leBytes 1 cause.code ++ leBytes 1 window.val ++
      leBytes 2 sequence.toNat ++ leBytes 2 count ++ leBytes 5 addr ++ leBytes 3 0
  | .claimExpired => leBytes 1 r.code ++ leBytes 15 0
  | .claimFreed former => leBytes 1 r.code ++ leBytes 1 former.val ++ leBytes 14 0
  | .windowChanged window state =>
    leBytes 1 r.code ++ leBytes 2 0 ++ leBytes 1 window.val ++ leBytes 1 state.code ++ leBytes 11 0
  | .portJoined port => leBytes 1 r.code ++ leBytes 1 port.val ++ leBytes 14 0
  | .portLeft port cause =>
    leBytes 1 r.code ++ leBytes 1 port.val ++ leBytes 1 cause.code ++ leBytes 13 0
  | .overflow count => leBytes 1 r.code ++ leBytes 3 0 ++ leBytes 1 count ++ leBytes 11 0

/-- R163, R177: the record at the head of a queue; kind NONE and zeros for an empty queue. -/
def headRecordBytes (queue : List Record) : List Byte :=
  match queue with
  | r :: _ => r.bytes
  | [] => leBytes 16 0

/-! ## View registers (R181) -/

/-- R180: a rights list as the byte of WSTG_RIGHTS, the code of port k in bits 2k and 2k+1. -/
def rightsByte (list : RightsList) : Nat :=
  list[0].code + 4 * list[1].code + 16 * list[2].code + 64 * list[3].code

/-- R181: WVIEW of a window. -/
def Window.view (w : WindowId) (win : Window) : List Byte :=
  leBytes 1 w.val ++ leBytes 1 win.state.code ++ leBytes 1 win.resource.code ++ leBytes 1 win.size.log2 ++
    leBytes 2 win.refCount ++ leBytes 1 (rightsByte win.rights) ++ leBytes 1 0 ++
    leBytes 3 (win.bridgeBase / Config.pageSize) ++ leBytes 1 0 ++
    leBytes 3 (win.destBase / Config.pageSize) ++ leBytes 1 0

/-- R27: writes-ahead is 0 in every state but WAITING. -/
def Phase.writesAhead : Phase → Nat
  | .waiting n => n
  | _ => 0

/-- R57, R181: TVIEW of an entry that is not FREE. -/
def Entry.view (e : Entry) : List Byte :=
  leBytes 1 e.tag.val ++ leBytes 1 e.phase.code ++ leBytes 1 e.owner.val ++ leBytes 1 e.kind.code ++
    leBytes 1 e.phase.writesAhead ++ leBytes 1 e.fresh ++ leBytes 2 e.count ++ leBytes 5 e.addr ++
    leBytes 3 0

/-- R57, R181: TVIEW of a tag; a FREE entry reads as its tag and zeros. -/
def State.tagView (s : State) (t : Tag) : List Byte :=
  match s.drt.find? (fun e => e.tag == t) with
  | some e => e.view
  | none => leBytes 1 t.val ++ leBytes 15 0

/-! ## Registers (R180, R182) -/

/-- R146, R182: the holder as two bytes, presence and port; zeros when the claim is free. -/
def State.holderBytes (s : State) : List Byte :=
  match s.claim.held with
  | some h => leBytes 1 1 ++ leBytes 1 h.holder.val
  | none => leBytes 2 0

/-- R146: the lease remaining, 0 when the claim is free. -/
def State.leaseShown (s : State) : Nat :=
  match s.claim.held with
  | some h => h.remaining
  | none => 0

/-- R12, R180: a staged field of 7 bytes, then its presence. -/
def stagedBytes (n : Option (List Byte)) : List Byte :=
  match n with
  | some v => v ++ leBytes 1 1
  | none => leBytes 8 0

/-- R182: the head sequence of the Posted Write Queue with its presence, as QSTAT shows them. -/
def State.queueStatus (s : State) : List Byte :=
  match s.pwq with
  | h :: _ =>
    leBytes 1 s.pwq.length ++ leBytes 1 1 ++ leBytes 2 s.lastSequence.toNat ++
      leBytes 2 h.sequence.toNat ++ leBytes 2 0
  | [] => leBytes 2 0 ++ leBytes 2 s.lastSequence.toNat ++ leBytes 4 0

/-- R180 to R182: what port `p` reads in a register. A register that is not readable has no content (R179
step 3 refuses the read). -/
def State.registerBytes (s : State) (p : PortId) (r : Reg) : List Byte :=
  let port := s.port p
  match r with
  | .devid =>
    leBytes 2 Config.vendorCode ++ leBytes 2 Config.partNumber ++ leBytes 1 Config.revision ++
      leBytes 3 0
  | .pstat =>
    leBytes 1 port.state.code ++ leBytes 1 p.val ++ s.holderBytes ++ leBytes 1 (s.charge p) ++
      leBytes 1 (s.queueCount p) ++ leBytes 2 0
  | .claim => s.holderBytes ++ leBytes 2 0 ++ leBytes 4 s.leaseShown
  | .evpop => headRecordBytes port.queue
  | .evpeek => headRecordBytes port.queue
  | .evcnt => leBytes 1 port.queue.length ++ leBytes 7 0
  | .attnen => leBytes 2 port.attnEnable.toNat ++ leBytes 6 0
  | .wstgHost => stagedBytes (port.staging.base.map (leBytes 7))
  | .wstgSize => stagedBytes (port.staging.size.map (leBytes 7))
  | .wstgDest =>
    stagedBytes (port.staging.dest.map (fun d => leBytes 6 d.2 ++ leBytes 1 d.1.code))
  | .wstgRights =>
    stagedBytes (port.staging.rights.map (fun l => leBytes 1 (rightsByte l) ++ leBytes 6 0))
  | .wviewSel => leBytes 1 port.wviewSel.val ++ leBytes 7 0
  | .wview => (s.window port.wviewSel).view port.wviewSel
  | .tviewSel => leBytes 1 port.tviewSel.val ++ leBytes 7 0
  | .tview => s.tagView port.tviewSel
  | .qstat => s.queueStatus
  | .discardIv => leBytes 2 s.discardInterval ++ leBytes 6 0
  | .leaseIv => leBytes 2 s.claim.interval ++ leBytes 6 0
  | .xbTimeout => leBytes 2 s.xbm.timeout ++ leBytes 6 0
  | .pjoin => []
  | .notice => []
  | .wcommit => []
  | .evict => []

end Sys2Proof.Machine
end

