-- ==== Sys2Proof/Machine/Ops.lean ====
section
/-! DEFINITION. The shared operations over the port records, the event queues, the Window Table, the Delayed
Request Table, the claim and teardown, and the taking and answering of requests. -/

namespace Sys2Proof.Machine

/-! ## One port, every port, one window -/

/-- Changes the record of one port. -/
def State.modifyPort (s : State) (p : PortId) (f : Port → Port) : State :=
  { s with ports := s.ports.set p (f s.ports[p]) }

/-- Changes the record of every port. -/
def State.mapPorts (s : State) (f : PortId → Port → Port) : State :=
  { s with ports := Vector.ofFn (fun p => f p s.ports[p]) }

/-- Changes one window descriptor. -/
def State.modifyWindow (s : State) (w : WindowId) (f : Window → Window) : State :=
  { s with windows := s.windows.set w (f s.windows[w]) }

/-! ## Event queues (R160 to R162) -/

/-- R161, R162: a record at the tail; the sixteenth place holds OVERFLOW, which counts what is lost. -/
def appendRecord (queue : List Record) (r : Record) : List Record :=
  match queue.getLast? with
  | some (.overflow n) =>
    if n < Config.overflowLimit then queue.dropLast ++ [.overflow (n + 1)] else queue
  | _ => if queue.length < Config.recordLimit then queue ++ [r] else queue ++ [.overflow 1]

/-- R160: a record offered to a port that is not ONLINE is dropped. -/
def Port.offer (port : Port) (r : Record) : Port :=
  if port.online then { port with queue := appendRecord port.queue r } else port

/-- R160: a record offered to the queue of one named port. -/
def State.offer (s : State) (p : PortId) (r : Record) : State :=
  s.modifyPort p (fun port => port.offer r)

/-- R160: a record offered to every ONLINE port. -/
def State.broadcast (s : State) (r : Record) : State :=
  s.mapPorts (fun _ port => port.offer r)

/-- R160: a record offered to every ONLINE port other than the one named. -/
def State.broadcastExcept (s : State) (q : PortId) (r : Record) : State :=
  s.mapPorts (fun p port => if p = q then port else port.offer r)

/-! ## Answers (R130, R132, R143) -/

/-- R132: the response to the request in hand is decided. It leaves at once, before the next command (`State.sendAll`,
assumption 5); the frame keeps its place until then (R130). -/
def Port.answer (port : Port) (r : Response) : Port :=
  { port with inHand := some (.decided r) }

/-- The response of a port to the request it has taken. -/
def State.answer (s : State) (p : PortId) (r : Response) : State :=
  s.modifyPort p (fun port => port.answer r)

/-- R130, R132: a response that has been decided leaves, the frame in hand is removed and the frames behind it move up. -/
def Port.send (port : Port) : Port :=
  match port.decided with
  | some r => { port with buffer := port.buffer.tail, inHand := none, sent := port.sent ++ [.response r] }
  | none => port

/-- The response that port `p` has decided leaves. -/
def State.send (s : State) (p : PortId) : State :=
  s.modifyPort p Port.send

/-- R132, R134: every response that has been decided leaves, at once: before anything else happens (assumption 5). -/
def State.sendAll (s : State) : State :=
  s.mapPorts (fun _ port => port.send)

/-- R143: the same where an event at port `p` itself may come before its response has left. -/
def State.sendOthers (s : State) (p : PortId) : State :=
  s.mapPorts (fun q port => if q = p then port else port.send)

/-- R100, R117, R132: what happens at once has happened: the responses that have been decided have left and the grants that
are due are made (assumptions 5 and 11). -/
def State.atOnce (s : State) : State :=
  s.sendAll.settle

/-- R143: a response that port `p` has decided has left by now, or has not (assumption 17). -/
def State.resolve (s : State) (p : PortId) : State :=
  match (s.port p).decided with
  | some _ => if Config.responseLeft s.choices then s.choose.send p else s.choose
  | none => s

/-- The four ports in increasing order. -/
def portIds : List PortId :=
  [0, 1, 2, 3]

/-- R143, for every port. -/
def State.resolveAll (s : State) : State :=
  portIds.foldl State.resolve s

/-- A refused request. -/
def State.refuse (s : State) (p : PortId) (r : RefusedReason) : State :=
  s.answer p (.refused r)

/-! ## Window references (R6, R19) -/

/-- R6: a PWQ entry or a DRT entry naming the window is made. -/
def State.takeRef (s : State) (w : WindowId) : State :=
  s.modifyWindow w (fun win => { win with refCount := win.refCount + 1 })

/-- R6: a PWQ entry or a DRT entry naming the window goes. -/
def State.releaseRef (s : State) (w : WindowId) : State :=
  s.modifyWindow w (fun win => { win with refCount := win.refCount - 1 })

/-- R23: a window takes on a state, and the change is announced to every ONLINE port. -/
def State.setWindowState (s : State) (w : WindowId) (st : WindowState) : State :=
  (s.modifyWindow w (fun win => { win with state := st })).broadcast (.windowChanged w st)

/-- R19: a DRAINING window whose reference count is 0. -/
def Window.drained (win : Window) : Bool :=
  win.state == .draining && win.refCount == 0

/-- R19: a DRAINING window whose reference count has fallen to 0 becomes DISABLED. -/
def State.endDraining (s : State) (w : WindowId) : State :=
  if (s.window w).drained then s.setWindowState w .disabled else s

/-- R19: whether releasing one reference to a window ends its draining. -/
def State.lastDrainingRef (s : State) (w : WindowId) : Bool :=
  (s.window w).state == .draining && (s.window w).refCount ≤ 1

/-- The window indices in increasing order. -/
def windowIds : List WindowId :=
  [0, 1, 2, 3, 4, 5, 6, 7, 8, 9, 10, 11, 12, 13, 14, 15]

/-! ## Lookup and translation (R7, R8) -/

/-- R2: whether the bridge range of a window that lookup consults holds an address. -/
def Window.holdsAddress (win : Window) (addr : Nat) : Bool :=
  win.state != .disabled && win.bridgeBase ≤ addr && addr < win.bridgeBase + win.size

/-- R7: the ENABLED window that holds an address; a miss or a DRAINING window gives none. -/
def State.lookup (s : State) (addr : Nat) : Option WindowId :=
  match windowIds.find? (fun w => (s.window w).holdsAddress addr) with
  | some w => if (s.window w).state == .enabled then some w else none
  | none => none

/-- R8: the destination address of a bridge address through a window. -/
def Window.translate (win : Window) (addr : Nat) : Nat :=
  win.destBase + (addr - win.bridgeBase)

/-! ## The Delayed Request Table (R26 to R51) -/

/-- R30: WAITING, FETCHING or READY. -/
def Entry.live (e : Entry) : Bool :=
  e.phase != .orphaned

/-- R30: whether an entry is matched by a request of its own port: every part of the match key is equal and
the entry is not ORPHANED. -/
def Entry.matchesKey (e : Entry) (p : PortId) (kind : EntryKind) (addr count : Nat) : Bool :=
  e.live && e.owner == p && e.kind == kind && e.addr == addr && e.count == count

/-- R30: the entry a request matches. -/
def State.matching (s : State) (p : PortId) (kind : EntryKind) (addr count : Nat) : Option Entry :=
  s.drt.find? (fun e => e.matchesKey p kind addr count)

/-- The tags in increasing order. -/
def tagIds : List Tag :=
  [0, 1, 2, 3, 4, 5, 6, 7, 8, 9, 10, 11, 12, 13]

/-- R35: the FREE entry with the lowest tag. -/
def State.freeTag (s : State) : Option Tag :=
  tagIds.find? (fun t => s.drt.all (fun e => e.tag != t))

/-- R34: whether a request of port `p` is admitted, by its charge and the shared charge. -/
def State.admits (s : State) (p : PortId) : Bool :=
  s.charge p < 2 || (s.charge p < 5 && s.sharedCharge ≤ 5)

/-- R35: an admitted request takes the FREE entry with the lowest tag, in WAITING behind every write the PWQ
holds, at the newest end of the allocation-order list. -/
def State.allocate (s : State) (t : Tag) (p : PortId) (kind : EntryKind) (addr count : Nat)
    (w : WindowId) : State :=
  let e : Entry :=
    { tag := t, owner := p, kind := kind, addr := addr, count := count, window := w
      resource := (s.window w).resource, dest := (s.window w).translate addr, fresh := 0
      phase := .waiting s.pwq.length }
  { s with drt := s.drt ++ [e] }.takeRef w

/-- R48: a FETCHING entry becomes ORPHANED. -/
def State.orphan (s : State) (t : Tag) : State :=
  s.setPhase t .orphaned

/-- R27, R28: an entry becomes FREE: it leaves the list, and its window's reference is released. -/
def State.dropEntry (s : State) (e : Entry) : State :=
  { s with drt := s.drt.filter (fun x => x.tag != e.tag) }.releaseRef e.window

/-- R27, R19: an entry becomes FREE, and a window it was the last to hold in DRAINING becomes DISABLED. -/
def State.freeEntry (s : State) (e : Entry) : State :=
  (s.dropEntry e).endDraining e.window

/-- R159, R91: the DISCARD record of an entry; `performed` is carried for a SWAP alone. -/
def Entry.discardRecord (e : Entry) (cause : DiscardCause) (performed : Bool) : Record :=
  .discard e.tag e.addr e.count cause
    (match e.kind with
     | .read => none
     | .swap _ _ => some performed)

/-- An entry is freed with a DISCARD record to its owner. Where the release ends a draining, `recordFirst`
says which of the two records comes first in the owner's queue (assumption 16). -/
def State.discardEntry (s : State) (e : Entry) (cause : DiscardCause) (performed recordFirst : Bool) :
    State :=
  let r := e.discardRecord cause performed
  if s.lastDrainingRef e.window then
    if recordFirst then (s.offer e.owner r).freeEntry e else (s.freeEntry e).offer e.owner r
  else (s.offer e.owner r).freeEntry e

/-- R45: a READY entry expires. -/
def State.expireEntry (s : State) (e : Entry) : State :=
  s.choose.discardEntry e .expired true (Config.expiryRecordFirst s.choices)

/-- R31: the entry of a re-request that fails its rights check, by its state. -/
def State.refuseEntry (s : State) (e : Entry) : State :=
  match e.phase with
  | .waiting _ => s.choose.discardEntry e .rights false (Config.refusalRecordFirst s.choices)
  | .ready _ _ => s.choose.discardEntry e .rights true (Config.refusalRecordFirst s.choices)
  | .fetching _ => (s.offer e.owner (e.discardRecord .rights true)).orphan e.tag
  | .orphaned => s

/-- R42, R89: the response that collects a result. -/
def FetchResult.response : FetchResult → Response
  | .ok data outcome => .data data outcome
  | .targetError => .refused .targetError
  | .targetTimeout => .refused .targetTimeout

/-- R31, R32, R42: a re-request, decided by the rights on the entry's window and the entry's state. -/
def State.rerequest (s : State) (p : PortId) (e : Entry) : State :=
  if (s.window e.window).rights[p].allows e.kind then
    match e.phase with
    | .ready result _ => (s.freeEntry e).answer p result.response
    | _ => s.answer p (.retry .pending)
  else (s.refuseEntry e).refuse p .denied

/-- R21: what the purge step does to one entry of the window. -/
def State.purgeEntry (s : State) (e : Entry) : State :=
  match e.phase with
  | .waiting _ => (s.offer e.owner (e.discardRecord .purged false)).dropEntry e
  | .ready _ _ => (s.offer e.owner (e.discardRecord .purged true)).dropEntry e
  | .fetching _ => s.orphan e.tag
  | .orphaned => s

/-- R21, R51: the purge step, oldest entry first, and then the end of the draining. -/
def State.purgeStep (s : State) (w : WindowId) : State :=
  ((s.drt.filter (fun e => e.window == w)).foldl State.purgeEntry s).endDraining w

/-- R50: what a teardown does to one entry of the port. -/
def State.tearEntry (s : State) (e : Entry) : State :=
  match e.phase with
  | .waiting _ => s.dropEntry e
  | .ready _ _ => s.dropEntry e
  | .fetching _ => s.orphan e.tag
  | .orphaned => s

/-- R50: what a teardown does to every entry of the port. -/
def State.tearEntries (s : State) (p : PortId) : State :=
  (s.drt.filter (fun e => e.owner == p)).foldl State.tearEntry s

/-! ## The claim (R145 to R155) -/

/-- R150: the lease that starts, in microseconds. -/
def Claim.fullLease (c : Claim) : Nat :=
  c.interval * 1000

/-- R147, R148: port `p` holds the claim with a full lease. -/
def State.grantClaim (s : State) (p : PortId) : State :=
  { s with claim := { s.claim with held := some { holder := p, remaining := s.claim.fullLease, due := false } } }

/-- R149, R155: the claim becomes free, and every ONLINE port but the former holder is told. -/
def State.freeClaim (s : State) (former : PortId) : State :=
  { s with claim := { s.claim with held := none } }.broadcastExcept former (.claimFreed former)

/-- R151: the lease of port `p` expires. -/
def State.expireLease (s : State) (p : PortId) : State :=
  ({ s with claim := { s.claim with held := none } }.offer p .claimExpired).broadcastExcept p
    (.claimFreed p)

/-! ## Teardown (R139, R140) and link down (R138) -/

/-- R139 steps 4 to 6: the event queue, the staging record and the selectors of a port torn down. -/
def Port.torn (port : Port) : Port :=
  { port with queue := [], staging := Staging.empty, wviewSel := 0, tviewSel := 0 }

/-- R139, R140: teardown of a port that has left ONLINE, the records in the order PORT_LEFT, WINDOW_CHANGED by
increasing index, CLAIM_FREED. -/
def State.teardown (s : State) (p : PortId) (cause : LeaveCause) : State :=
  let s := s.broadcastExcept p (.portLeft p cause)
  let s := windowIds.foldl State.endDraining (s.tearEntries p)
  let s := if s.holds p then s.freeClaim p else s
  s.modifyPort p Port.torn

/-- R136, R137: a port leaves ONLINE with its link up. -/
def State.leaveOnline (s : State) (p : PortId) (cause : LeaveCause) : State :=
  (s.modifyPort p (fun port => { port with state := .attached })).teardown p cause

/-- R105: whether the immediate read in hand at a port has been granted: the store is BUSY with the port's
position, and not for an access dropped earlier. -/
def State.readGranted (s : State) (p : PortId) : Bool :=
  s.store == some (.port p) && (s.port p).readInHand.isSome && !(s.port p).dropped

/-- R138: the port's own part of a link down: the frames, the request in hand and a response decided for it that has not
left are discarded; `granted` says whether its immediate read had been granted. -/
def Port.unlinked (port : Port) (granted : Bool) : Port :=
  { port with
    state := .offline, buffer := [], inHand := none, dropped := port.dropped || granted }

/-- R105, R138, R143: what a link down of a port takes away before its grant: the immediate read in hand, and by the
teardown the port's entries. -/
def State.lostAtLinkDown (s : State) (p : PortId) : Grantee → Bool
  | .read q => q == p
  | .write => false
  | .entry e => s.online p && e.owner == p

/-- R53, R105, R143: the grants before a link down of a port. While the response to a request is still in hand, so is what
the request allocated: 'A delayed READ allocated in hand is freed by the teardown', and no grant has come before. -/
def State.grantsBeforeLinkDown (s : State) (p : PortId) : State :=
  if (s.port p).decided.isSome then s.grantsBefore (s.lostAtLinkDown p) (fun _ => false)
  else s.grantsBefore (s.lostAtLinkDown p)

/-- R138: a port's link goes down with what is in the port now, before or after a grant to its immediate read or to an
entry of its own; an ONLINE port is torn down with cause LINK. -/
def State.dropLink (s : State) (p : PortId) : State :=
  let s := s.grantsBeforeLinkDown p
  let granted := s.readGranted p
  let unlinked := s.modifyPort p (fun port => port.unlinked granted)
  match (s.port p).state with
  | .offline => s
  | .attached => unlinked
  | .online => unlinked.teardown p .link

/-- R138, R143: a port's link goes down, before or after the response it has decided has left. -/
def State.linkDown (s : State) (p : PortId) : State :=
  (s.resolve p).dropLink p

/-- R131: the link-down indication that names LINK_FAULT. -/
def State.sendLinkFault (s : State) (p : PortId) : State :=
  s.modifyPort p (fun port => { port with sent := port.sent ++ [.linkFault] })

/-! ## Device reset (R185) -/

/-- R185: every table, queue, port and setting takes its device-reset value, accesses and transactions in
progress are abandoned without completion (R106, R123), and the bus state is RESET. What was sent earlier, the
contents of the store, the reset input and the clearing stand as they are. -/
def State.clearDevice (s : State) : State :=
  { s with
    ports := Vector.ofFn (fun p : Fin 4 => Port.reset s.ports[p].sent)
    windows := Vector.replicate 16 Window.reset
    drt := []
    discardInterval := Config.discardIntervalReset
    pwq := []
    lastSequence := 0
    claim := Claim.reset
    store := none
    lastPosition := .fetch
    xbm := Xbm.reset .reset }

/-- R144, R185: device reset starts; responses decided that have not left by then are discarded, and a grant that is due may
have been made or not (R99). -/
def State.deviceReset (s : State) : State :=
  (s.resolveAll.grantsBefore (fun _ => true)).clearDevice

/-- R108, R123: when device reset has ended the bus state is IDLE. -/
def State.releaseReset (s : State) : State :=
  if s.inReset then s else { s with xbm := { s.xbm with bus := .idle } }

/-! ## Taking a frame (R132) and deciding a control write (R133, R179) -/

/-- R132: the frame a port takes next: its link is up, no request is in hand, and its buffer holds one. -/
def State.frameToTake (s : State) (p : PortId) : Option Frame :=
  let port := s.port p
  if port.state != .offline && port.inHand.isNone then port.buffer.head? else none

/-- R132: the port takes its oldest frame, which is one of the row's; every response decided before has left by then, and
the grants that are due are made, but for the order of R53 where the request takes away what `lost` names. Where the port
takes no frame, or one of another row, this taking does not occur and nothing else changes (assumption 2). -/
def State.take (s : State) (p : PortId) (row : TakeRow) (decide : State → Frame → State)
    (lost : State → Frame → Grantee → Bool := fun _ _ _ => false) : State :=
  let s := s.sendAll
  match s.frameToTake p with
  | some f => if f.row = row then decide (s.grantsBefore (lost s f)) f else s.settle
  | none => s.settle

/-- How the rule of a register decides a write: carried out, with the state it leaves, or refused. -/
inductive Verdict where
  | done (s : State)
  | refused (r : RefusedReason)

/-- R134, R179: a control write is answered DONE when it is carried out, and refused with its reason otherwise; the answer
leaves at once, before the next command (assumption 5). -/
def State.conclude (s : State) (p : PortId) : Verdict → State
  | .done s' => s'.answer p (.done none)
  | .refused r => s.refuse p r

/-- R133, R179: the checks before a register's own rule: the port state, then the claim, then the access, then the width. -/
def State.writeRefusal (s : State) (p : PortId) (r : Reg) (value : List Byte) : Option RefusedReason :=
  if !s.online p && r != .pjoin then some .notJoined
  else if r.claimRequired && !s.holds p then some .notHolder
  else if !r.writable then some .wrongAccess
  else if value.length != r.width then some .wrongAccess
  else none

/-- R133, R179: a well-formed CTL_WRITE to a register, by the checks, then the register's own rule. -/
def State.controlWrite (s : State) (p : PortId) (r : Reg) (value : List Byte) (rule : Verdict) : State :=
  s.conclude p <|
    match s.writeRefusal p r value with
    | some reason => .refused reason
    | none => rule

/-- R179: a well-formed CTL_READ, by the offset, then the access, then the width; the answer leaves at once, as that of a
write does. -/
def State.controlRead (s : State) (p : PortId) (offset length : Nat) : State :=
  match Reg.ofOffset offset with
  | none => s.refuse p .unknownOffset
  | some r =>
    if r.readable && length == r.width then s.answer p (.data (s.registerBytes p r) none)
    else s.refuse p .wrongAccess

end Sys2Proof.Machine
end

