-- ==== Sys2Proof/Machine/Traffic.lean ====
section
/-! DEFINITION. The shared operations of the data paths: accepting a posted write with the overlap check (R61 to
R67), drain and fetch completions (R71 to R75, R39 to R41, R49), the accesses of the store (R95 to R97) and the
transactions of the Expansion Bus Master (R107 to R120). -/

namespace Sys2Proof.Machine

/-! ## Accepting a write (R61 to R67) -/

/-- R61: the queue holds fewer than 16 entries, and fewer than 8 of the port's own. -/
def State.queueRoom (s : State) (p : PortId) : Bool :=
  s.pwq.length < Config.queueLimit && s.queueCount p < Config.portQueueLimit

/-- R63: two destination ranges on one resource share at least one byte. -/
def rangesOverlap (a m b n : Nat) : Bool :=
  a < b + n && b < a + m

/-- R63: whether the overlap check acts on an entry. -/
def Entry.actedOn (e : Entry) (r : Resource) (dest count : Nat) : Bool :=
  e.resource == r && rangesOverlap e.dest e.count dest count && e.fresh < Config.freshLimit &&
    match e.phase with
    | .waiting _ => true
    | .fetching _ => e.kind == .read
    | .ready _ _ => e.kind == .read
    | .orphaned => false

/-- R64 to R66: what an overlapping write does to the state of an entry, given the new occupancy. -/
def Phase.overtaken (occupancy : Nat) : Phase → Phase
  | .waiting _ => .waiting occupancy
  | .fetching _ => .fetching (some occupancy)
  | .ready _ _ => .waiting occupancy
  | .orphaned => .orphaned

/-- R63: the overlap check on one entry. -/
def Entry.overlapCheck (e : Entry) (r : Resource) (dest count occupancy : Nat) : Entry :=
  if e.actedOn r dest count then
    { e with phase := e.phase.overtaken occupancy, fresh := e.fresh + 1 }
  else e

/-- R62: an admitted write joins the tail with the next sequence, the window's reference count rises, and the
overlap check runs with the new occupancy. -/
def State.accept (s : State) (p : PortId) (addr : Nat) (data : List Byte) (w : WindowId) : State :=
  let win := s.window w
  let posted : PostedWrite :=
    { sequence := s.lastSequence + 1, source := p, window := w, addr := addr, resource := win.resource
      dest := win.translate addr, data := data, inFlight := false }
  let occupancy := s.pwq.length + 1
  { s with
    pwq := s.pwq ++ [posted]
    lastSequence := s.lastSequence + 1
    drt := s.drt.map (fun e : Entry => e.overlapCheck win.resource (win.translate addr) data.length occupancy)
    }.takeRef w

/-! ## Drain completion (R71 to R76) -/

/-- R72: a drain completion lowers every writes-ahead and refetch-after above 0. -/
def Phase.lowered : Phase → Phase
  | .waiting n => .waiting (n - 1)
  | .fetching (some n) => .fetching (some (n - 1))
  | phase => phase

/-- R72, for an entry. -/
def Entry.lowered (e : Entry) : Entry :=
  { e with phase := e.phase.lowered }

/-- R74, R75: a drain that ends in a fault is reported to its source port when that port is ONLINE, else to the
claim holder, else not at all. -/
def State.reportFault (s : State) (w : PostedWrite) (cause : FaultCause) : State :=
  if s.online w.source then
    s.offer w.source (.writeFault w.sequence w.addr w.data.length w.window cause)
  else
    match s.claim.held with
    | some h =>
      s.offer h.holder (.orphanFault w.sequence w.addr w.data.length w.window cause w.source)
    | none => s

/-- R71, R76: the drain of the head completes; a fault is reported before the end of the window's draining. -/
def State.completeDrain (s : State) (fault : Option FaultCause) : State :=
  match s.pwq with
  | [] => s
  | h :: rest =>
    let s :=
      match fault with
      | some cause => s.reportFault h cause
      | none => s
    ({ s with pwq := rest, drt := s.drt.map Entry.lowered }.releaseRef h.window).endDraining h.window

/-! ## Fetch completion (R39, R40, R49) -/

/-- R43: the discard interval in force as microseconds. -/
def State.discardTime (s : State) : Nat :=
  s.discardInterval * Config.discardUnit

/-- R38: the entry that is FETCHING or ORPHANED on a resource. -/
def State.fetchedEntry (s : State) (r : Resource) : Option Entry :=
  s.drt.find? (Entry.occupies r)

/-- R39, R40, R49: the completion of the fetch on a resource reaches the entry that is FETCHING or ORPHANED
there. -/
def State.completeFetch (s : State) (r : Resource) (result : FetchResult) : State :=
  match s.fetchedEntry r with
  | none => s
  | some e =>
    match e.phase with
    | .fetching none => s.setPhase e.tag (.ready result s.discardTime)
    | .fetching (some n) => s.setPhase e.tag (.waiting n)
    | _ => s.freeEntry e

/-! ## Accesses (R95 to R97) -/

/-- R95: the offset and byte count of the access a BUSY store runs for a position. An access dropped at link
down covers nothing that is used any more (R105). -/
def State.accessRange (s : State) (pos : Position) : Nat × Nat :=
  match pos with
  | .port p =>
    match (s.port p).readInHand, (s.port p).dropped with
    | some r, false => (r.offset, r.count)
    | _, _ => (0, 0)
  | .drain =>
    match s.pwq with
    | h :: _ => (h.dest, h.data.length)
    | [] => (0, 0)
  | .fetch =>
    match s.fetchedEntry .ls with
    | some e =>
      match e.kind with
      | .read => (e.dest, e.count)
      | .swap _ _ => (e.dest, 8)
    | none => (0, 0)

/-- R95: whether an access lies within the store. -/
def State.accessInStore (s : State) (pos : Position) : Bool :=
  (s.accessRange pos).1 + (s.accessRange pos).2 ≤ Config.storeSize

/-- R104, R105: the completion of port `p`'s access: its data is dropped if the link was lost after the grant,
and answers the immediate read in hand otherwise. -/
def State.completeRead (s : State) (p : PortId) : State :=
  if (s.port p).dropped then s.modifyPort p (fun port => { port with dropped := false })
  else
    match (s.port p).readInHand with
    | some r => s.answer p (.data (s.mem.readRange r.offset r.count) none)
    | none => s

/-- R70, R96: the write of the head takes effect at its completion, and the head is removed. -/
def State.completeStoreWrite (s : State) : State :=
  match s.pwq with
  | h :: _ => { s with mem := s.mem.writeBytes h.dest h.data }.completeDrain none
  | [] => s

/-- R87: whether a compare-and-swap access exchanges the word. -/
def swapOutcome (old compareValue : List Byte) : SwapOutcome :=
  if old = compareValue then .exchanged else .notExchanged

/-- R87: the contents of the store after a compare-and-swap access at `dest`. -/
def swappedMemory (m : Memory) (dest : Nat) (compareValue swapValue : List Byte) : Memory :=
  match swapOutcome (m.readRange dest 8) compareValue with
  | .exchanged => m.writeBytes dest (swapValue.take 8)
  | .notExchanged => m

/-- R38, R87, R96: the read or the compare-and-swap of the entry that is FETCHING or ORPHANED on the store
completes. -/
def State.completeStoreFetch (s : State) : State :=
  match s.fetchedEntry .ls with
  | none => s
  | some e =>
    match e.kind with
    | .read => s.completeFetch .ls (.ok (s.mem.readRange e.dest e.count) none)
    | .swap compareValue swapValue =>
      let old := s.mem.readRange e.dest 8
      { s with mem := swappedMemory s.mem e.dest compareValue swapValue }.completeFetch .ls
        (.ok old (some (swapOutcome old compareValue)))

/-- R97: the completion is handed to the requester that was granted, and leaves the store FREE. -/
def State.completeAccess (s : State) (pos : Position) : State :=
  let s :=
    match pos with
    | .port p => s.completeRead p
    | .drain => s.completeStoreWrite
    | .fetch => s.completeStoreFetch
  { s with store := none }

/-! ## Transactions of the expansion bus (R107 to R112) -/

/-- R107: WRITE for a drain, READ for a fetch. -/
def Transaction.isWrite (t : Transaction) : Bool :=
  t.stream == .drain

/-- R107: the number of aligned 8-byte units that the bytes of a transaction touch. -/
def Transaction.beats (t : Transaction) : Nat :=
  (t.address + t.count - 1) / 8 - t.address / 8 + 1

/-- R107: the address of the aligned unit of a beat. -/
def Transaction.unitAddress (t : Transaction) (beat : Nat) : Nat :=
  (t.address / 8 + beat) * 8

/-- R107: the positions of the unit's bytes that belong to the transaction (assumption 12). -/
def Transaction.positions (t : Transaction) (beat : Nat) : List Nat :=
  [0, 1, 2, 3, 4, 5, 6, 7].filter (fun j =>
    t.address ≤ t.unitAddress beat + j && t.unitAddress beat + j < t.address + t.count)

/-- R110: the positions of a write beat with the bytes of the transaction's data there. -/
def Transaction.beatBytes (t : Transaction) (data : List Byte) (beat : Nat) : List (Nat × Byte) :=
  (t.positions beat).filterMap (fun j => data[t.unitAddress beat + j - t.address]?.map (fun b => (j, b)))

/-- R110: the data of a WRITE transaction is that of the PWQ head, which is in flight. -/
def State.drainData (s : State) : List Byte :=
  match s.pwq with
  | h :: _ => h.data
  | [] => []

/-- R110: the next beat of a WRITE transaction is sent. -/
def State.sendBeat (s : State) (t : Transaction) : State :=
  { s with
    busItems := s.busItems ++
      [.beat t.number (t.unitAddress t.beatsDone) (t.beatBytes s.drainData t.beatsDone)] }

/-- The current transaction changes. -/
def State.setTransaction (s : State) (t : Transaction) : State :=
  { s with xbm := { s.xbm with bus := .active t } }

/-! ## Ends of a transaction (R112, R113, R119, R120) -/

/-- R112, R113: how a transaction ends. -/
inductive BusEnd where
  | ok
  | error
  | timeout
  deriving DecidableEq, Repr

/-- R119: the fault a drain transaction is handed back with. -/
def BusEnd.fault : BusEnd → Option FaultCause
  | .ok => none
  | .error => some .error
  | .timeout => some .timeout

/-- R41, R120: the result a fetch transaction is handed back with. -/
def BusEnd.result (how : BusEnd) (readData : List Byte) : FetchResult :=
  match how with
  | .ok => .ok readData none
  | .error => .targetError
  | .timeout => .targetTimeout

/-- R112, R119, R120: the completion is handed to the current stream, and the bus becomes IDLE. -/
def State.completeTransaction (s : State) (t : Transaction) (how : BusEnd) : State :=
  let s :=
    match t.stream with
    | .drain => s.completeDrain how.fault
    | .fetch => s.completeFetch .xb (how.result t.readData)
  { s with xbm := { s.xbm with bus := .idle } }

/-- R113: the expansion timeout expires: the abort indication is driven and the completion is TIMEOUT. -/
def State.expireTransaction (s : State) (t : Transaction) : State :=
  { s with busItems := s.busItems ++ [BusItem.abort] }.completeTransaction t .timeout

/-- R112: an OK taken before every beat has been moved ends the transaction with ERROR. -/
def Transaction.endedBy (t : Transaction) (how : TargetEnding) : BusEnd :=
  match how, t.phase with
  | .ok, .ending => .ok
  | _, _ => .error

/-- R115: the current transaction, when an item that carries `number` belongs to it. -/
def State.current (s : State) (number : TransactionNumber) : Option Transaction :=
  match s.xbm.bus with
  | .active t => if t.number = number then some t else none
  | _ => none

end Sys2Proof.Machine
end

