-- ==== Sys2Proof/Machine/Claiming.lean ====
section
/-! DEFINITION. The meanings of the claim commands (R147 to R149). -/

namespace Sys2Proof.Machine

/-- R147: a free claim is granted, the holder renews its lease, another port is refused CLAIMED. -/
def State.acquireRule (s : State) (p : PortId) : Verdict :=
  match s.claim.held with
  | none => .done (s.grantClaim p)
  | some h => if h.holder = p then .done (s.grantClaim p) else .refused .claimed

/-- ACQUIRE (R147). -/
def execAcquire (p : PortId) (s : State) : Host.Outcome State Fault Refusal :=
  .next <| s.take p .acquire (fun s f =>
    s.controlWrite p .claim (f.payload .ctlWrite) (s.acquireRule p))

/-- R148: the holder's lease restarts from the lease interval in force. -/
def State.renewRule (s : State) (p : PortId) : Verdict :=
  if s.holds p then .done (s.grantClaim p) else .refused .notHolder

/-- RENEW (R148). -/
def execRenew (p : PortId) (s : State) : Host.Outcome State Fault Refusal :=
  .next <| s.take p .renew (fun s f =>
    s.controlWrite p .claim (f.payload .ctlWrite) (s.renewRule p))

/-- R149: the holder frees the claim. -/
def State.releaseRule (s : State) (p : PortId) : Verdict :=
  if s.holds p then .done (s.freeClaim p) else .refused .notHolder

/-- RELEASE (R149). -/
def execRelease (p : PortId) (s : State) : Host.Outcome State Fault Refusal :=
  .next <| s.take p .release (fun s f =>
    s.controlWrite p .claim (f.payload .ctlWrite) (s.releaseRule p))

end Sys2Proof.Machine
end

