-- ==== Sys2Proof/Machine/Control.lean ====
section
/-! DEFINITION. The meanings of the settings, the selectors, and of control decode for what has no row of its own (R43, R57, R121, R153, R179, R181). -/

namespace Sys2Proof.Machine

/-- R43, R121, R153: a setting takes a value from 1 to `limit`; any other is refused BAD_VALUE. -/
def settingRule (value : List Byte) (limit : Nat) (put : Nat → State) : Verdict :=
  if 1 ≤ settingValue value && settingValue value ≤ limit then .done (put (settingValue value))
  else .refused .badValue

/-- DISCARD_IV (R43). -/
def execDiscardIv (p : PortId) (s : State) : Host.Outcome State Fault Refusal :=
  .next <| s.take p .discardIv (fun s f =>
    let value := f.payload .ctlWrite
    s.controlWrite p .discardIv value
      (settingRule value 4095 (fun n => { s with discardInterval := n })))

/-- LEASE_IV (R153): the running lease keeps what remains of it. -/
def execLeaseIv (p : PortId) (s : State) : Host.Outcome State Fault Refusal :=
  .next <| s.take p .leaseIv (fun s f =>
    let value := f.payload .ctlWrite
    s.controlWrite p .leaseIv value
      (settingRule value 1000 (fun n => { s with claim := { s.claim with interval := n } })))

/-- XB_TIMEOUT (R121): a transaction in progress keeps what remains of its timeout. -/
def execXbTimeout (p : PortId) (s : State) : Host.Outcome State Fault Refusal :=
  .next <| s.take p .xbTimeout (fun s f =>
    let value := f.payload .ctlWrite
    s.controlWrite p .xbTimeout value
      (settingRule value 1023 (fun n => { s with xbm := { s.xbm with timeout := n } })))

/-- R181: the selector of the window shown by WVIEW. -/
def State.wviewSelRule (s : State) (p : PortId) (value : List Byte) : Verdict :=
  match windowIndex value with
  | some w => .done (s.modifyPort p (fun port => { port with wviewSel := w }))
  | none => .refused .badValue

/-- WVIEW_SEL (R181). -/
def execWviewSel (p : PortId) (s : State) : Host.Outcome State Fault Refusal :=
  .next <| s.take p .wviewSel (fun s f =>
    let value := f.payload .ctlWrite
    s.controlWrite p .wviewSel value (s.wviewSelRule p value))

/-- R57: the selector of the entry shown by TVIEW. -/
def State.tviewSelRule (s : State) (p : PortId) (value : List Byte) : Verdict :=
  match selectedTag value with
  | some t => .done (s.modifyPort p (fun port => { port with tviewSel := t }))
  | none => .refused .badValue

/-- TVIEW_SEL (R57, R181). -/
def execTviewSel (p : PortId) (s : State) : Host.Outcome State Fault Refusal :=
  .next <| s.take p .tviewSel (fun s f =>
    let value := f.payload .ctlWrite
    s.controlWrite p .tviewSel value (s.tviewSelRule p value))

/-- R133, R179 for a well-formed CTL_WRITE that has no row of its own: an unknown offset, a register that is not
writable, or a PJOIN, CLAIM or WCOMMIT write whose code names no command (R135, R146, R14). -/
def State.otherWrite (s : State) (p : PortId) (offset : Nat) (value : List Byte) : State :=
  match Reg.ofOffset offset with
  | some r => s.controlWrite p r value (.refused .badValue)
  | none => if s.online p then s.refuse p .unknownOffset else s.refuse p .notJoined

/-- CTL_WRITE (R129, R179): control decode of a frame that has no row of its own, malformed frames and every
CTL_READ but EVPOP among them (assumption 3). -/
def execCtlWrite (p : PortId) (s : State) : Host.Outcome State Fault Refusal :=
  .next <| s.take p .ctlWrite (fun s f =>
    if !f.wellFormed then s.refuse p .malformed
    else if f.kind == some .ctlRead then s.controlRead p f.offset f.count
    else s.otherWrite p f.offset (f.payload .ctlWrite))

end Sys2Proof.Machine
end

