-- ==== Sys2Proof/Machine/Downstream.lean ====
section
/-! DEFINITION. The meanings of the completion of a local store access and of the items of expansion bus targets (R97, R107, R110 to R112, R115). -/

namespace Sys2Proof.Machine

/-- LS_ACCESS_COMPLETION (R97): the access in progress completes, the store becomes FREE, and it is granted again (R100). With
the store FREE no access completes. -/
def execLsAccessCompletion (s : State) : Host.Outcome State Fault Refusal :=
  let s := s.atOnce
  match s.store with
  | none => .next s
  | some pos =>
    if s.accessInStore pos then .next (s.completeAccess pos).grantStore else .fault .storeRange

/-- R107, R110: the target has taken the address: the DATA phase begins, and for a WRITE the first beat is sent. -/
def State.beginData (s : State) (t : Transaction) : State :=
  let t' := { t with phase := .data }
  let s := s.setTransaction t'
  if t.isWrite then s.sendBeat t' else s

/-- ADDRESS_TAKEN (R107, R115): ignored when late, and after the ADDRESS phase. -/
def execAddressTaken (number : TransactionNumber) (s : State) : Host.Outcome State Fault Refusal :=
  let s := s.atOnce
  .next <|
    match s.current number with
    | some t => if t.phase = .address then s.beginData t else s
    | none => s

/-- R110: a write beat has been taken: the next beat is sent, or after the last one the XBM waits for the ending. -/
def State.beatTaken (s : State) (t : Transaction) : State :=
  if t.beatsDone + 1 < t.beats then
    let t' := { t with beatsDone := t.beatsDone + 1 }
    (s.setTransaction t').sendBeat t'
  else s.setTransaction { t with beatsDone := t.beatsDone + 1, phase := .ending }

/-- WRITE_BEAT_TAKEN (R110, R115): ignored when late, in a READ, and outside the DATA phase. -/
def execWriteBeatTaken (number : TransactionNumber) (s : State) : Host.Outcome State Fault Refusal :=
  let s := s.atOnce
  .next <|
    match s.current number with
    | some t => if t.isWrite && t.phase == .data then s.beatTaken t else s
    | none => s

/-- R111: the bytes of a read beat at the positions that belong to the transaction, in address order. -/
def Transaction.keptBytes (t : Transaction) (data : List Byte) : List Byte :=
  (t.positions t.beatsDone).filterMap (fun j => data[j]?)

/-- R111: a read beat is taken; after the last one the XBM waits for the ending. -/
def State.takeReadBeat (s : State) (t : Transaction) (data : List Byte) : State :=
  s.setTransaction
    { t with
      readData := t.readData ++ t.keptBytes data
      beatsDone := t.beatsDone + 1
      phase := if t.beatsDone + 1 < t.beats then .data else .ending }

/-- READ_BEAT (R111, R115): ignored when late, in a WRITE, and outside the DATA phase. -/
def execReadBeat (number : TransactionNumber) (data : List Byte) (s : State) :
    Host.Outcome State Fault Refusal :=
  let s := s.atOnce
  .next <|
    match s.current number with
    | some t => if !t.isWrite && t.phase == .data then s.takeReadBeat t data else s
    | none => s

/-- ENDING (R112, R115): the current transaction completes, and the bus is granted again (R117); a late ending is ignored. -/
def execEnding (number : TransactionNumber) (how : TargetEnding) (s : State) :
    Host.Outcome State Fault Refusal :=
  let s := s.atOnce
  .next <|
    match s.current number with
    | some t => (s.completeTransaction t (t.endedBy how)).grantBus
    | none => s

end Sys2Proof.Machine
end

