-- ==== Sys2Proof/Machine/Events.lean ====
section
/-! DEFINITION. The meanings of NOTICE, EVPOP and ATTNEN (R163, R166, R169). -/

namespace Sys2Proof.Machine

/-- R166: the target is a port and ONLINE; then the record is offered to its queue. -/
def State.noticeRule (s : State) (p : PortId) (value : List Byte) : Verdict :=
  match targetPort value with
  | none => .refused .badValue
  | some t =>
    if s.online t then .done (s.offer t (.notice p (noticePayload value)))
    else .refused .portAbsent

/-- NOTICE (R166). -/
def execNotice (p : PortId) (s : State) : Host.Outcome State Fault Refusal :=
  .next <| s.take p .notice (fun s f =>
    let value := f.payload .ctlWrite
    s.controlWrite p .notice value (s.noticeRule p value))

/-- R163: the head record leaves the port's own queue. -/
def State.popQueue (s : State) (p : PortId) : State :=
  s.modifyPort p (fun port => { port with queue := port.queue.tail })

/-- EVPOP (R163, R179): answered DATA with the head record, which is removed; a length other than 16 is refused
WRONG_ACCESS and removes nothing (R164). -/
def execEvpop (p : PortId) (s : State) : Host.Outcome State Fault Refusal :=
  .next <| s.take p .evpop (fun s f =>
    if f.count == Reg.evpop.width then
      (s.popQueue p).answer p (.data (s.registerBytes p .evpop) none)
    else s.refuse p .wrongAccess)

/-- R169: both lists name record kinds alone; then the set changes. -/
def State.attnenRule (s : State) (p : PortId) (value : List Byte) : Verdict :=
  if kindsOnly (setList value) && kindsOnly (clearList value) then
    .done (s.modifyPort p (fun port =>
      { port with attnEnable := updateKinds port.attnEnable (setList value) (clearList value) }))
  else .refused .badValue

/-- ATTNEN (R169). -/
def execAttnen (p : PortId) (s : State) : Host.Outcome State Fault Refusal :=
  .next <| s.take p .attnen (fun s f =>
    let value := f.payload .ctlWrite
    s.controlWrite p .attnen value (s.attnenRule p value))

end Sys2Proof.Machine
end

