-- ==== Sys2Proof/Machine/Link.lean ====
section
/-! DEFINITION. The meanings of the link commands (R125, R130, R131, R138). -/

namespace Sys2Proof.Machine

/-- LINK_UP (R125): an OFFLINE port that offers its link becomes ATTACHED, its input buffer empty and no request in
hand. -/
def execLinkUp (p : PortId) (s : State) : Host.Outcome State Fault Refusal :=
  let s := s.atOnce
  .next <|
    if s.linkOffered p then
      s.modifyPort p (fun port => { port with state := .attached, buffer := [], inHand := none })
    else s

/-- LINK_DOWN (R138): the effects are the same whatever the cause; LINK_FAULT is named to the host (R131), after a
response of the port that has left (R143); those of other ports have left by then. A link that is down does not go
down. -/
def execLinkDown (p : PortId) (cause : LinkDownCause) (s : State) : Host.Outcome State Fault Refusal :=
  .next <|
    match (s.port p).state, cause with
    | .offline, _ => s.atOnce
    | _, .linkFault => (((s.sendOthers p).resolve p).sendLinkFault p).dropLink p
    | _, _ => (s.sendOthers p).linkDown p

/-- R130, R131: an arriving frame joins the newest end of the input buffer, after the grants that are due; at a full buffer it
is a credit overrun, and the port takes its link down with cause LINK_FAULT. -/
def State.receive (s : State) (p : PortId) (frame : Frame) : State :=
  if (s.port p).buffer.length < Config.bufferSize then
    s.settle.modifyPort p (fun port => { port with buffer := port.buffer ++ [frame] })
  else (s.sendLinkFault p).dropLink p

/-- FRAME_ARRIVAL (R130, R131). At a full buffer, whether a response decided for its head has left (R143) decides whether
there is a place. An OFFLINE port receives no frame (R133). -/
def execFrameArrival (p : PortId) (frame : Frame) (s : State) : Host.Outcome State Fault Refusal :=
  .next <|
    match (s.port p).state with
    | .offline => s.atOnce
    | _ =>
      if (s.port p).buffer.length < Config.bufferSize then s.sendAll.receive p frame
      else ((s.sendOthers p).resolve p).receive p frame

end Sys2Proof.Machine
end

