-- ==== Sys2Proof/Machine/Membership.lean ====
section
/-! DEFINITION. The meanings of joining, leaving and eviction (R135 to R137, R154). -/

namespace Sys2Proof.Machine

/-- R135: a port becomes ONLINE, its staging record empty and every kind in its attention enable set. -/
def Port.joined (port : Port) : Port :=
  { port with state := .online, staging := Staging.empty, attnEnable := Config.allKinds }

/-- R135: JOIN is refused WRONG_STATE at an ONLINE port. -/
def State.joinRule (s : State) (p : PortId) : Verdict :=
  if s.online p then .refused .wrongState
  else .done ((s.modifyPort p Port.joined).broadcastExcept p (.portJoined p))

/-- JOIN (R135). -/
def execJoin (p : PortId) (s : State) : Host.Outcome State Fault Refusal :=
  .next <| s.take p .join (fun s f =>
    s.controlWrite p .pjoin (f.payload .ctlWrite) (s.joinRule p))

/-- R136: LEAVE is refused WRONG_STATE at an ATTACHED port. -/
def State.leaveRule (s : State) (p : PortId) : Verdict :=
  if s.online p then .done (s.leaveOnline p .leave) else .refused .wrongState

/-- LEAVE (R136). A grant that is due to an entry of the port comes before it or after (R53). -/
def execLeave (p : PortId) (s : State) : Host.Outcome State Fault Refusal :=
  .next <| s.take p .leave (fun s f =>
    s.controlWrite p .pjoin (f.payload .ctlWrite) (s.leaveRule p))
    (lost := fun s f g => (s.writeRefusal p .pjoin (f.payload .ctlWrite)).isNone && s.online p && g.ownedBy p)

/-- R154: the target is a port, not the writing port, and ONLINE; then it is evicted. -/
def State.evictRule (s : State) (p : PortId) (value : List Byte) : Verdict :=
  match targetPort value with
  | none => .refused .badValue
  | some t =>
    if t = p then .refused .badValue
    else if !s.online t then .refused .portAbsent
    else .done (s.leaveOnline t .evicted)

/-- EVICT (R154). A grant that is due to an entry of the port evicted comes before it or after (R53). -/
def execEvict (p : PortId) (s : State) : Host.Outcome State Fault Refusal :=
  .next <| s.take p .evict (fun s f =>
    let value := f.payload .ctlWrite
    s.controlWrite p .evict value (s.evictRule p value))
    (lost := fun s f g =>
      let value := f.payload .ctlWrite
      (s.writeRefusal p .evict value).isNone &&
        (targetPort value).any (fun t => t != p && s.online t && g.ownedBy t))

end Sys2Proof.Machine
end

