-- ==== Sys2Proof/Machine/Requests.lean ====
section
/-! DEFINITION. The meanings of the frames that reach memory, and of a frame that fails its integrity check (R29, R60, R84, R128). -/

namespace Sys2Proof.Machine

/-- RESEND (R128): a frame that fails its integrity check is answered RESEND and has no other effect. -/
def execResend (p : PortId) (s : State) : Host.Outcome State Fault Refusal :=
  .next <| s.take p .resend (fun s _ => s.answer p .resend)

/-- R29 steps 6 and 7: admission, and allocation with RETRY PENDING. Admission always finds a FREE entry (R34); where no tag
is FREE the answer is NO_SLOT (assumption 10). The new entry is WAITING when this command ends; a grant that is due to it is
made at once, before the next command, but for the order of R24, R53 and R143 (`State.grantsBefore`, assumption 18). -/
def State.delay (s : State) (p : PortId) (kind : EntryKind) (addr count : Nat) (w : WindowId) : State :=
  if s.admits p then
    match s.freeTag with
    | some t => (s.allocate t p kind addr count w).answer p (.retry .pending)
    | none => s.answer p (.retry .noSlot)
  else s.answer p (.retry .noSlot)

/-- R103: the port holds an immediate read, and its position requests. -/
def State.startImmediate (s : State) (p : PortId) (r : ReadInHand) : State :=
  s.modifyPort p (fun port => { port with inHand := some (.read r) })

/-- R29 steps 2 to 7 for a READ that matches no entry: lookup, rights, immediate, admission, allocation. -/
def State.newRead (s : State) (p : PortId) (addr count : Nat) : State :=
  match s.lookup addr with
  | none => s.refuse p .noWindow
  | some w =>
    let win := s.window w
    if !win.rights[p].allowsRead then s.refuse p .denied
    else if win.resource == .ls && s.pwq.isEmpty then
      s.startImmediate p { offset := win.translate addr, count := count }
    else s.delay p .read addr count w

/-- R29 for a READ from an ONLINE port. -/
def State.takeRead (s : State) (p : PortId) (addr count : Nat) : State :=
  match s.matching p .read addr count with
  | some e => s.rerequest p e
  | none => s.newRead p addr count

/-- R31, R53: an entry that the request matches and that its rights check takes away. -/
def State.lostAtRefusal (s : State) (p : PortId) (kind : EntryKind) (addr count : Nat) : Grantee → Bool
  | .entry e => s.matching p kind addr count == some e && !(s.window e.window).rights[p].allows e.kind
  | _ => false

/-- READ (R29, R129, R133): well-formedness, the port state, then R29. -/
def execRead (p : PortId) (s : State) : Host.Outcome State Fault Refusal :=
  .next <| s.take p .read (fun s f =>
    if !f.wellFormed then s.refuse p .malformed
    else if !s.online p then s.refuse p .notJoined
    else s.takeRead p f.addr f.count)
    (lost := fun s f g => f.wellFormed && s.online p && s.lostAtRefusal p .read f.addr f.count g)

/-- R60 for a WRITE from an ONLINE port: lookup, rights, capacity, acceptance with DONE. -/
def State.takeWrite (s : State) (p : PortId) (addr : Nat) (data : List Byte) : State :=
  match s.lookup addr with
  | none => s.refuse p .noWindow
  | some w =>
    if !(s.window w).rights[p].allowsWrite then s.refuse p .denied
    else if !s.queueRoom p then s.answer p (.retry .queueFull)
    else (s.accept p addr data w).answer p (.done (some (s.lastSequence + 1)))

/-- R53, R64: an entry whose fence the WRITE raises, if it is accepted. -/
def State.lostAtWrite (s : State) (p : PortId) (addr : Nat) (data : List Byte) : Grantee → Bool
  | .entry e =>
    match s.lookup addr with
    | none => false
    | some w =>
      (s.window w).rights[p].allowsWrite && s.queueRoom p &&
        e.actedOn (s.window w).resource ((s.window w).translate addr) data.length
  | _ => false

/-- WRITE (R60, R129, R133): well-formedness, the port state, then R60. -/
def execWrite (p : PortId) (s : State) : Host.Outcome State Fault Refusal :=
  .next <| s.take p .write (fun s f =>
    if !f.wellFormed then s.refuse p .malformed
    else if !s.online p then s.refuse p .notJoined
    else s.takeWrite p f.addr (f.payload .write))
    (lost := fun s f g => f.wellFormed && s.online p && s.lostAtWrite p f.addr (f.payload .write) g)

/-- R84 for a SWAP that matches no entry: lookup, rights, kind, admission, allocation. -/
def State.newSwap (s : State) (p : PortId) (addr : Nat) (compareValue swapValue : List Byte) : State :=
  match s.lookup addr with
  | none => s.refuse p .noWindow
  | some w =>
    if !(s.window w).rights[p].allowsSwap then s.refuse p .denied
    else if (s.window w).resource == .xb then s.refuse p .notSupported
    else s.delay p (.swap compareValue swapValue) addr 8 w

/-- R29, R85 for a SWAP from an ONLINE port; its byte count is 8 (R83). -/
def State.takeSwap (s : State) (p : PortId) (addr : Nat) (compareValue swapValue : List Byte) : State :=
  match s.matching p (.swap compareValue swapValue) addr 8 with
  | some e => s.rerequest p e
  | none => s.newSwap p addr compareValue swapValue

/-- SWAP (R84, R129, R133): well-formedness, the port state, then R29 and R84. -/
def execSwap (p : PortId) (s : State) : Host.Outcome State Fault Refusal :=
  .next <| s.take p .swap (fun s f =>
    if !f.wellFormed then s.refuse p .malformed
    else if !s.online p then s.refuse p .notJoined
    else s.takeSwap p f.addr f.compareValue f.swapValue)
    (lost := fun s f g => f.wellFormed && s.online p &&
      s.lostAtRefusal p (.swap f.compareValue f.swapValue) f.addr 8 g)

end Sys2Proof.Machine
end

