-- ==== Sys2Proof/Machine/Reset.lean ====
section
/-! DEFINITION. The meanings of the reset and power-on commands (R185, R186). -/

namespace Sys2Proof.Machine

/-- POWER_ON (R186): device reset starts and the clearing of the store begins. The store reads as 0 from here on;
nothing can read it before the clearing is complete (assumption 8). -/
def execPowerOn (s : State) : Host.Outcome State Fault Refusal :=
  .next { s.deviceReset with clearing := true, mem := [] }

/-- STORE_CLEARING_COMPLETE (R186): every byte of the store is 0, and device reset ends unless the reset input is
still asserted. -/
def execStoreClearingComplete (s : State) : Host.Outcome State Fault Refusal :=
  let s := s.atOnce
  .next <|
    if s.clearing then { s with clearing := false, mem := [] }.releaseReset else s

/-- RESET_INPUT_ASSERTED (R185): device reset starts; while it is already in force nothing further happens but
that the input now holds it. -/
def execResetInputAsserted (s : State) : Host.Outcome State Fault Refusal :=
  .next <|
    if s.inReset then { s.atOnce with resetInput := true } else { s.deviceReset with resetInput := true }

/-- RESET_INPUT_DEASSERTED (R185): device reset ends unless the power-on clearing still runs. -/
def execResetInputDeasserted (s : State) : Host.Outcome State Fault Refusal :=
  let s := s.atOnce
  .next <|
    if s.resetInput then { s with resetInput := false }.releaseReset else s

end Sys2Proof.Machine
end

