-- ==== Sys2Proof/Machine/Timers.lean ====
section
/-! DEFINITION. The meanings of the timebase unit and of the three expiries (R45, R113, R151, R184). -/

namespace Sys2Proof.Machine

/-- R45: a READY entry whose discard remaining has reached 0. -/
def Entry.due (e : Entry) : Bool :=
  match e.phase with
  | .ready _ remaining => remaining == 0
  | _ => false

/-- R45: the READY entry of a tag expires when its discard remaining has reached 0. -/
def State.expireTag (s : State) (t : Tag) : State :=
  match s.drt.find? (fun e => e.tag == t && e.due) with
  | some e => s.expireEntry e
  | none => s

/-- R151: the lease expires when it has reached 0: its last unit has come (assumption 4). -/
def State.expireDueLease (s : State) : State :=
  match s.claim.held with
  | some h => if h.due then s.expireLease h.holder else s
  | none => s

/-- R113: the transaction in progress is abandoned when its timeout has reached 0, and the bus is granted again (R117). -/
def State.expireDueTransaction (s : State) : State :=
  match s.xbm.bus with
  | .active t => if t.remaining = 0 then (s.expireTransaction t).grantBus else s
  | _ => s

/-- The expiries that are due when a further unit arrives: a timer that has reached 0 expires before the next unit
(R184: at most n microseconds after it was set). The order among them is the model's (assumption 4). -/
def State.expireDue (s : State) : State :=
  (tagIds.foldl State.expireTag s).expireDueLease.expireDueTransaction

/-- R184: a running discard timer falls by 1. -/
def Entry.tick (e : Entry) : Entry :=
  match e.phase with
  | .ready result remaining => { e with phase := .ready result (remaining - 1) }
  | _ => e

/-- R150: a running lease falls by 1. R145 gives it no 0 while the claim is held: its last unit makes the expiry due. -/
def Holding.tick (h : Holding) : Holding :=
  if h.remaining ≤ 1 then { h with due := true } else { h with remaining := h.remaining - 1 }

/-- R150: a unit reaches the lease of a claim that is held. -/
def Claim.tick (c : Claim) : Claim :=
  { c with held := c.held.map Holding.tick }

/-- R184: a running expansion timeout falls by 1. -/
def BusState.tick : BusState → BusState
  | .active t => .active { t with remaining := t.remaining - 1 }
  | b => b

/-- R184: one timebase unit reaches every running timer. -/
def State.tick (s : State) : State :=
  { s with
    drt := s.drt.map Entry.tick
    claim := s.claim.tick
    xbm := { s.xbm with bus := s.xbm.bus.tick } }

/-- TIMEBASE_UNIT (R184). -/
def execTimebaseUnit (s : State) : Host.Outcome State Fault Refusal :=
  .next s.atOnce.expireDue.tick

/-- EXPANSION_TIMEOUT (R113): the timeout of the transaction in progress has reached 0. -/
def execExpansionTimeout (s : State) : Host.Outcome State Fault Refusal :=
  .next s.atOnce.expireDueTransaction

/-- DISCARD_EXPIRY (R45): the discard remaining of the entry has reached 0. -/
def execDiscardExpiry (t : Tag) (s : State) : Host.Outcome State Fault Refusal :=
  .next (s.atOnce.expireTag t)

/-- LEASE_EXPIRY (R151): the lease has reached 0. -/
def execLeaseExpiry (s : State) : Host.Outcome State Fault Refusal :=
  .next s.atOnce.expireDueLease

end Sys2Proof.Machine
end

