-- ==== Sys2Proof/Machine/Windows.lean ====
section
/-! DEFINITION. The meanings of the window commits and of the staging writes (R11, R14 to R22). -/

namespace Sys2Proof.Machine

/-- R14 step 2: the window index of a commit must be 0 to 15. -/
def commitRule (value : List Byte) (action : WindowId → Verdict) : Verdict :=
  match windowIndex value with
  | none => .refused .badValue
  | some w => action w

/-- R15 step 2: staged values that form a valid window together. -/
def stagedFits (base size : Nat) (r : Resource) (dest : Nat) : Bool :=
  base % size == 0 && dest % size == 0 && dest + size ≤ r.size

/-- R15 step 2, R16: the window that a staging record describes, ENABLED and with no reference; none when a field
is absent or the fields form no valid window. -/
def Staging.toWindow (st : Staging) : Option Window :=
  match st.base, st.size, st.dest, st.rights with
  | some base, some size, some (r, dest), some rights =>
    if stagedFits base size r dest then
      some
        { state := .enabled, bridgeBase := base, size := size, resource := r, destBase := dest
          rights := rights, refCount := 0 }
    else none
  | _, _, _, _ => none

/-- R15 step 3: two bridge ranges share an address. -/
def Window.overlaps (a b : Window) : Bool :=
  a.bridgeBase < b.bridgeBase + b.size && b.bridgeBase < a.bridgeBase + a.size

/-- R15 step 3: some window that is ENABLED or DRAINING overlaps the one proposed. -/
def State.overlapsTable (s : State) (win : Window) : Bool :=
  windowIds.any (fun w => (s.window w).state != .disabled && win.overlaps (s.window w))

/-- R15, R16: ENABLE of a window: state, staged values, overlap; then the copy and the announcement. -/
def State.enableRule (s : State) (p : PortId) (w : WindowId) : Verdict :=
  if (s.window w).state != .disabled then .refused .wrongState
  else
    match (s.port p).staging.toWindow with
    | none => .refused .badValue
    | some win =>
      if s.overlapsTable win then .refused .overlap
      else
        .done ((s.modifyWindow w (fun old => { win with refCount := old.refCount })).broadcast
          (.windowChanged w .enabled))

/-- ENABLE (R15, R16). -/
def execEnable (p : PortId) (s : State) : Host.Outcome State Fault Refusal :=
  .next <| s.take p .enable (fun s f =>
    let value := f.payload .ctlWrite
    s.controlWrite p .wcommit value (commitRule value (s.enableRule p)))

/-- R17: the state an ENABLED window takes on when it is disabled. -/
def Window.disabledState (win : Window) : WindowState :=
  if win.refCount = 0 then .disabled else .draining

/-- R17: an ENABLED window becomes DISABLED, or DRAINING while it is referenced. -/
def State.disableWindow (s : State) (w : WindowId) : State :=
  s.setWindowState w (s.window w).disabledState

/-- R17: DISABLE of a window that is not ENABLED is refused WRONG_STATE. -/
def State.disableRule (s : State) (w : WindowId) : Verdict :=
  if (s.window w).state == .enabled then .done (s.disableWindow w) else .refused .wrongState

/-- DISABLE (R17). -/
def execDisable (p : PortId) (s : State) : Host.Outcome State Fault Refusal :=
  .next <| s.take p .disable (fun s f =>
    let value := f.payload .ctlWrite
    s.controlWrite p .wcommit value (commitRule value s.disableRule))

/-- R20: PURGE of an ENABLED or DRAINING window: an ENABLED one is first disabled, and while it is DRAINING the
purge step follows. -/
def State.purgeRule (s : State) (w : WindowId) : Verdict :=
  match (s.window w).state with
  | .disabled => .refused .wrongState
  | .draining => .done (s.purgeStep w)
  | .enabled =>
    if (s.window w).refCount = 0 then .done (s.disableWindow w)
    else .done ((s.disableWindow w).purgeStep w)

/-- PURGE (R20, R21). A grant that is due to an entry of the window comes before it or after (R24, R53). -/
def execPurge (p : PortId) (s : State) : Host.Outcome State Fault Refusal :=
  .next <| s.take p .purge (fun s f =>
    let value := f.payload .ctlWrite
    s.controlWrite p .wcommit value (commitRule value s.purgeRule))
    (lost := fun s f g =>
      let value := f.payload .ctlWrite
      (s.writeRefusal p .wcommit value).isNone && (windowIndex value).any (fun w => g.ofWindow w))

/-- R22: RIGHTS of an ENABLED or DRAINING window replaces its rights list by the staged one. -/
def State.rightsRule (s : State) (p : PortId) (w : WindowId) : Verdict :=
  if (s.window w).state == .disabled then .refused .wrongState
  else
    match (s.port p).staging.rights with
    | none => .refused .badValue
    | some list =>
      .done ((s.modifyWindow w (fun win => { win with rights := list })).broadcast
        (.windowChanged w (s.window w).state))

/-- RIGHTS (R22). -/
def execRights (p : PortId) (s : State) : Host.Outcome State Fault Refusal :=
  .next <| s.take p .rights (fun s f =>
    let value := f.payload .ctlWrite
    s.controlWrite p .wcommit value (commitRule value (s.rightsRule p)))

/-! ## The staging record (R11) -/

/-- R11: a staged value that its register takes becomes present; another is refused BAD_VALUE. -/
def State.stageRule {α : Type} (s : State) (p : PortId) (v : Option α) (put : Staging → α → Staging) :
    Verdict :=
  match v with
  | none => .refused .badValue
  | some x => .done (s.modifyPort p (fun port => { port with staging := put port.staging x }))

/-- WSTG_HOST (R11). -/
def execWstgHost (p : PortId) (s : State) : Host.Outcome State Fault Refusal :=
  .next <| s.take p .wstgHost (fun s f =>
    let value := f.payload .ctlWrite
    s.controlWrite p .wstgHost value
      (s.stageRule p (stagedBase value) (fun st n => { st with base := some n })))

/-- WSTG_SIZE (R11). -/
def execWstgSize (p : PortId) (s : State) : Host.Outcome State Fault Refusal :=
  .next <| s.take p .wstgSize (fun s f =>
    let value := f.payload .ctlWrite
    s.controlWrite p .wstgSize value
      (s.stageRule p (stagedSize value) (fun st n => { st with size := some n })))

/-- WSTG_DEST (R11). -/
def execWstgDest (p : PortId) (s : State) : Host.Outcome State Fault Refusal :=
  .next <| s.take p .wstgDest (fun s f =>
    let value := f.payload .ctlWrite
    s.controlWrite p .wstgDest value
      (s.stageRule p (stagedDest value) (fun st d => { st with dest := some d })))

/-- WSTG_RIGHTS (R11); every value is valid (R180). -/
def execWstgRights (p : PortId) (s : State) : Host.Outcome State Fault Refusal :=
  .next <| s.take p .wstgRights (fun s f =>
    let value := f.payload .ctlWrite
    s.controlWrite p .wstgRights value
      (s.stageRule p (some (stagedRights value)) (fun st l => { st with rights := some l })))

end Sys2Proof.Machine
end

