-- ==== Sys2Proof/Machine/Dispatch.lean ====
section
/-! DEFINITION. The meaning of every command: one arm per row of spec/opcode_table.json, in its order. -/

namespace Sys2Proof.Machine

def exec (i : Instr) (s : State) : Host.Outcome State Fault Refusal :=
  match i with
  | .powerOn => Sys2Proof.Machine.execPowerOn s
  | .storeClearingComplete => Sys2Proof.Machine.execStoreClearingComplete s
  | .resetInputAsserted => Sys2Proof.Machine.execResetInputAsserted s
  | .resetInputDeasserted => Sys2Proof.Machine.execResetInputDeasserted s
  | .timebaseUnit => Sys2Proof.Machine.execTimebaseUnit s
  | .linkUp p => Sys2Proof.Machine.execLinkUp p s
  | .linkDown p cause => Sys2Proof.Machine.execLinkDown p cause s
  | .frameArrival p frame => Sys2Proof.Machine.execFrameArrival p frame s
  | .resend p => Sys2Proof.Machine.execResend p s
  | .read p => Sys2Proof.Machine.execRead p s
  | .write p => Sys2Proof.Machine.execWrite p s
  | .swap p => Sys2Proof.Machine.execSwap p s
  | .join p => Sys2Proof.Machine.execJoin p s
  | .leave p => Sys2Proof.Machine.execLeave p s
  | .acquire p => Sys2Proof.Machine.execAcquire p s
  | .renew p => Sys2Proof.Machine.execRenew p s
  | .release p => Sys2Proof.Machine.execRelease p s
  | .enable p => Sys2Proof.Machine.execEnable p s
  | .disable p => Sys2Proof.Machine.execDisable p s
  | .purge p => Sys2Proof.Machine.execPurge p s
  | .rights p => Sys2Proof.Machine.execRights p s
  | .evict p => Sys2Proof.Machine.execEvict p s
  | .notice p => Sys2Proof.Machine.execNotice p s
  | .evpop p => Sys2Proof.Machine.execEvpop p s
  | .attnen p => Sys2Proof.Machine.execAttnen p s
  | .wstgHost p => Sys2Proof.Machine.execWstgHost p s
  | .wstgSize p => Sys2Proof.Machine.execWstgSize p s
  | .wstgDest p => Sys2Proof.Machine.execWstgDest p s
  | .wstgRights p => Sys2Proof.Machine.execWstgRights p s
  | .discardIv p => Sys2Proof.Machine.execDiscardIv p s
  | .leaseIv p => Sys2Proof.Machine.execLeaseIv p s
  | .xbTimeout p => Sys2Proof.Machine.execXbTimeout p s
  | .wviewSel p => Sys2Proof.Machine.execWviewSel p s
  | .tviewSel p => Sys2Proof.Machine.execTviewSel p s
  | .ctlWrite p => Sys2Proof.Machine.execCtlWrite p s
  | .lsAccessCompletion => Sys2Proof.Machine.execLsAccessCompletion s
  | .addressTaken number => Sys2Proof.Machine.execAddressTaken number s
  | .writeBeatTaken number => Sys2Proof.Machine.execWriteBeatTaken number s
  | .readBeat number data => Sys2Proof.Machine.execReadBeat number data s
  | .ending number how => Sys2Proof.Machine.execEnding number how s
  | .expansionTimeout => Sys2Proof.Machine.execExpansionTimeout s
  | .discardExpiry t => Sys2Proof.Machine.execDiscardExpiry t s
  | .leaseExpiry => Sys2Proof.Machine.execLeaseExpiry s

end Sys2Proof.Machine
end

