-- ==== Sys2Proof/Machine/Step.lean ====
section
/-! DEFINITION. One step: the command at the front of the queue, on the state with the queue's rest; with an empty
queue the decided responses leave, the grants that are due are made, and the block idles otherwise (assumptions 1, 5 and 11). -/

namespace Sys2Proof.Machine

/-- The command at the front of the queue is carried out; its meaning begins with the leaving of the responses decided
before it (R132, assumption 5) and with the grants that are due (R100, R117, assumptions 11 and 18). With nothing waiting, the
responses leave, the grants are made, and the block idles otherwise. -/
def step (s : State) : Host.Outcome State Fault Refusal :=
  match s.pending with
  | [] => .next s.atOnce
  | c :: rest => exec c { s with pending := rest }

/-- The command a word spells, put at the front of the queue. The table spells none (assumption 15). -/
def State.withFetchWord (s : State) (nbits w : Nat) : State :=
  match decodeTableWord nbits w with
  | some c => { s with pending := c :: s.pending }
  | none => s

end Sys2Proof.Machine
end

