-- ==== Sys2Proof/Safety.lean ====
section
/-! DEFINITION. The laws of the device that the manual states of its states, and what "nothing else changes" means,
in the terms the claims use. -/

namespace Sys2Proof

/-! ## The commands that are the taking of a frame -/

/-- The command that is the taking of a frame of a row. -/
def TakeRow.command : TakeRow → PortId → Instr
  | .resend, p => .resend p
  | .read, p => .read p
  | .write, p => .write p
  | .swap, p => .swap p
  | .join, p => .join p
  | .leave, p => .leave p
  | .acquire, p => .acquire p
  | .renew, p => .renew p
  | .release, p => .release p
  | .enable, p => .enable p
  | .disable, p => .disable p
  | .purge, p => .purge p
  | .rights, p => .rights p
  | .evict, p => .evict p
  | .notice, p => .notice p
  | .evpop, p => .evpop p
  | .attnen, p => .attnen p
  | .wstgHost, p => .wstgHost p
  | .wstgSize, p => .wstgSize p
  | .wstgDest, p => .wstgDest p
  | .wstgRights, p => .wstgRights p
  | .discardIv, p => .discardIv p
  | .leaseIv, p => .leaseIv p
  | .xbTimeout, p => .xbTimeout p
  | .wviewSel, p => .wviewSel p
  | .tviewSel, p => .tviewSel p
  | .ctlWrite, p => .ctlWrite p

/-- The register that the control writes of a row go to. -/
def TakeRow.register : TakeRow → Option Reg
  | .join => some .pjoin
  | .leave => some .pjoin
  | .acquire => some .claim
  | .renew => some .claim
  | .release => some .claim
  | .enable => some .wcommit
  | .disable => some .wcommit
  | .purge => some .wcommit
  | .rights => some .wcommit
  | .evict => some .evict
  | .notice => some .notice
  | .attnen => some .attnen
  | .wstgHost => some .wstgHost
  | .wstgSize => some .wstgSize
  | .wstgDest => some .wstgDest
  | .wstgRights => some .wstgRights
  | .discardIv => some .discardIv
  | .leaseIv => some .leaseIv
  | .xbTimeout => some .xbTimeout
  | .wviewSel => some .wviewSel
  | .tviewSel => some .tviewSel
  | _ => none

end Sys2Proof

namespace Sys2Proof.Machine

/-! ## Taking a frame -/

/-- R132, R134: every response that has been decided has left. Any command but the few events that may come before a
response has left first makes this so (`EveryFrameTakenIsAnsweredOnce`). -/
abbrev State.allSent (s : State) : Prop :=
  ∀ p : PortId, (s.port p).decided = none

/-- R100, R117: every grant that was due has been made. -/
abbrev State.granted (s : State) : Prop :=
  s.storeGrantee = none ∧ s.busGrantee = none

/-- What happens at once has happened: the responses have left and the grants are made. -/
abbrev State.atRest (s : State) : Prop :=
  s.allSent ∧ s.granted

/-- R132: port `p` takes frame `f`, and the taking is the row's; what happens at once has happened before. -/
abbrev State.takes (s : State) (p : PortId) (row : TakeRow) (f : Frame) : Prop :=
  s.frameToTake p = some f ∧ f.row = row ∧ s.atRest

/-- R133: the frame taken is a well-formed request of an ONLINE port. -/
abbrev State.takesRequest (s : State) (p : PortId) (row : TakeRow) (f : Frame) : Prop :=
  s.takes p row f ∧ f.wellFormed = true ∧ s.online p = true

/-- R133, R179: the frame taken writes the 8 bytes `value` to its register, from an ONLINE port. -/
abbrev State.takesWrite (s : State) (p : PortId) (row : TakeRow) (value : List Byte) : Prop :=
  ∃ f, s.takes p row f ∧ s.online p = true ∧ f.payload .ctlWrite = value ∧ value.length = 8

/-- R152: the same from the holder of the claim. -/
abbrev State.takesHeldWrite (s : State) (p : PortId) (row : TakeRow) (value : List Byte) : Prop :=
  s.takesWrite p row value ∧ s.holds p = true

/-- R29 step 1: the command `c` is port `p`'s re-request of the entry `e` it matches, whether or not a grant to it is due. -/
def State.reRequests (s : State) (p : PortId) (c : Instr) (e : Entry) : Prop :=
  ∃ f, (c = .read p ∧ s.settle.takesRequest p .read f ∧ s.matching p .read f.addr f.count = some e) ∨
    (c = .swap p ∧ s.settle.takesRequest p .swap f ∧
      s.matching p (.swap f.compareValue f.swapValue) f.addr 8 = some e)

/-- R53, R99, R105: the command `c` takes away what a grant that is due would go to: an entry that a re-request is refused,
that an accepted write fences, that a purge step or a teardown reaches; an immediate read whose link goes down; and at
device reset everything. -/
def State.takesAway (s : State) (c : Instr) (g : Grantee) : Prop :=
  c = .powerOn ∨ (c = .resetInputAsserted ∧ s.inReset = false) ∨
    (∃ p, (s.port p).state ≠ .offline ∧ (g = .read p ∨ ∃ e, g = .entry e ∧ e.owner = p ∧ s.online p = true) ∧
      ((∃ cause, c = .linkDown p cause) ∨ ((∃ f, c = .frameArrival p f) ∧ 4 ≤ (s.port p).buffer.length))) ∨
    ∃ p e, g = .entry e ∧
      ((s.reRequests p c e ∧ (s.window e.window).rights[p].allows e.kind = false) ∨
        (c = .write p ∧ ∃ f w, s.settle.takesRequest p .write f ∧ s.lookup f.addr = some w ∧
          (s.window w).rights[p].allowsWrite = true ∧ s.queueRoom p = true ∧
          e.actedOn (s.window w).resource ((s.window w).translate f.addr) (f.payload .write).length = true) ∨
        (c = .purge p ∧ ∃ value, s.settle.takesHeldWrite p .purge value ∧ bytesAt value 0 1 = e.window.val) ∨
        (c = .leave p ∧ e.owner = p ∧ s.online p = true ∧
          ∃ f, s.settle.takes p .leave f ∧ (f.payload .ctlWrite).length = 8) ∨
        (c = .evict p ∧ e.owner ≠ p ∧ s.online e.owner = true ∧
          ∃ value, s.settle.takesHeldWrite p .evict value ∧ bytesAt value 0 1 = e.owner.val))

/-- Commands carried out one after the other, up to the first that stops. -/
def runCommands : List Instr → State → Host.Outcome State Fault Refusal
  | [], s => .next s
  | c :: rest, s =>
    match exec c s with
    | .next t => runCommands rest t
    | o => o

/-! ## What ports and windows become -/

/-- R160: the record of a port after records are offered to its queue, in the order of the list. -/
def Port.offerAll (port : Port) (records : List Record) : Port :=
  records.foldl Port.offer port

/-- Every port becomes what its record was, with the records listed for it offered in order. -/
abbrev State.announces (s t : State) (records : PortId → List Record) : Prop :=
  ∀ p : PortId, t.port p = (s.port p).offerAll (records p)

/-- R6, R19: a window that `n` of its references have left; if it is DRAINING and none remain it is DISABLED. -/
def Window.released (win : Window) (n : Nat) : Window :=
  { win with
    refCount := win.refCount - n
    state := if win.state = .draining ∧ win.refCount ≤ n then .disabled else win.state }

/-- R132, R143: what a command may make leave a port: nothing, or the response the port has decided. -/
def Port.mayLeave (port : Port) (left : List LinkItem) : Prop :=
  left = [] ∨ ∃ r, port.inHand = some (.decided r) ∧ left = [.response r]

/-- R185, R186: what device reset makes of every table, queue, port and setting (R4, R43, R52, R81, R106, R108, R116,
R121, R124, R144, R145, R172). What was sent earlier stands, with a response that had been decided where it has left in
time (R143, assumption 17), and the ADDRESS phase of a transaction that was due where it has started in time (assumption
18), and so do the waiting commands; what is left over is the contents of the store and the reset
inputs. -/
structure State.DeviceReset (s t : State) : Prop where
  ports : ∀ p : PortId, ∃ left, (s.port p).mayLeave left ∧ t.port p =
    { state := .offline, buffer := [], inHand := none, dropped := false, staging := Staging.empty, wviewSel := 0
      tviewSel := 0, attnEnable := 0x07FE#16, queue := [], sent := (s.port p).sent ++ left }
  windows : ∀ w : WindowId, t.window w =
    { state := .disabled, bridgeBase := 0, size := 4096, resource := .ls, destBase := 0
      rights := #v[.none, .none, .none, .none], refCount := 0 }
  drt : t.drt = []
  discardInterval : t.discardInterval = 2048
  pwq : t.pwq = []
  lastSequence : t.lastSequence = 0
  claim : t.claim = { held := none, interval := 250 }
  store : t.store = none
  lastPosition : t.lastPosition = .fetch
  xbm : t.xbm = { bus := .reset, lastNumber := 0, timeout := 64, lastStream := .fetch }
  busItems : t.busItems = s.busItems ∨ t.busItems = s.grantBus.busItems ∨ t.busItems = s.settle.busItems
  choices : s.choices + portIds.countP (fun p => (s.port p).decided.isSome) ≤ t.choices ∧
    (s.granted → t.choices = s.choices + portIds.countP (fun p => (s.port p).decided.isSome) ∧ t.busItems = s.busItems)
  pending : t.pending = s.pending

/-! ## What the registers show, byte by byte (R180 to R182, with the codes of R183) -/

/-- R183: LS is 0 and XB is 1. -/
def Resource.number : Resource → Nat
  | .ls => 0
  | .xb => 1

/-- R180, R183: the byte `b` holds the rights of port k in its bits 2k and 2k+1. -/
def RightsList.shownAs (list : RightsList) (b : Nat) : Prop :=
  ∀ k : PortId, b / 4 ^ k.val % 4 = match list[k] with
    | .none => 0
    | .read => 1
    | .write => 2
    | .atomic => 3

/-- R181: the 16 bytes of WVIEW, for a window of the table. -/
structure Window.Shown (w : WindowId) (win : Window) (bytes : List Byte) : Prop where
  index : bytesAt bytes 0 1 = w.val
  state : bytesAt bytes 1 1 = match win.state with
    | .disabled => 0
    | .enabled => 1
    | .draining => 2
  resource : bytesAt bytes 2 1 = win.resource.number
  size : ∀ k, 12 ≤ k → k ≤ 32 → win.size = 2 ^ k → bytesAt bytes 3 1 = k
  refCount : win.refCount ≤ 30 → bytesAt bytes 4 2 = win.refCount
  rights : win.rights.shownAs (bytesAt bytes 6 1)
  bridgeBase : win.bridgeBase < 2 ^ 36 → bytesAt bytes 8 3 = win.bridgeBase / 4096
  destBase : win.destBase < 2 ^ 32 → bytesAt bytes 12 3 = win.destBase / 4096
  zeros : bytesAt bytes 7 1 = 0 ∧ bytesAt bytes 11 1 = 0 ∧ bytesAt bytes 15 1 = 0

/-- R57, R181: the 16 bytes of TVIEW, for an entry that is not FREE. -/
structure Entry.Shown (e : Entry) (bytes : List Byte) : Prop where
  tag : bytesAt bytes 0 1 = e.tag.val
  state : bytesAt bytes 1 1 = match e.phase with
    | .waiting _ => 1
    | .fetching _ => 2
    | .ready _ _ => 3
    | .orphaned => 4
  owner : bytesAt bytes 2 1 = e.owner.val
  kind : bytesAt bytes 3 1 = match e.kind with
    | .read => 1
    | .swap _ _ => 3
  writesAhead : match e.phase with
    | .waiting n => n ≤ 16 → bytesAt bytes 4 1 = n
    | _ => bytesAt bytes 4 1 = 0
  fresh : e.fresh ≤ 4 → bytesAt bytes 5 1 = e.fresh
  count : e.count ≤ 256 → bytesAt bytes 6 2 = e.count
  addr : e.addr < 2 ^ 36 → bytesAt bytes 8 5 = e.addr
  zeros : bytesAt bytes 13 3 = 0

/-- R12, R25, R57, R82, R180, R181, R182: what port `p` reads in each readable register. -/
structure State.RegistersShown (s : State) (p : PortId) : Prop where
  devid : s.registerBytes p .devid = [0x1D, 0x0A, 0x18, 0x10, 1, 0, 0, 0]
  pstat : let b := bytesAt (s.registerBytes p .pstat)
    (b 0 1 = match (s.port p).state with
      | .offline => 0
      | .attached => 1
      | .online => 2) ∧
    b 1 1 = p.val ∧
    (s.drt.countP (fun e => e.owner == p) ≤ 5 → b 4 1 = s.drt.countP (fun e => e.owner == p)) ∧
    (s.pwq.countP (fun w => w.source == p) ≤ 8 → b 5 1 = s.pwq.countP (fun w => w.source == p)) ∧ b 6 2 = 0
  holder : let b := bytesAt (s.registerBytes p .pstat)
    match s.claim.held with
    | some h => b 2 1 = 1 ∧ b 3 1 = h.holder.val
    | none => b 2 2 = 0
  claim : let b := bytesAt (s.registerBytes p .claim)
    b 2 2 = 0 ∧ match s.claim.held with
      | some h => b 0 1 = 1 ∧ b 1 1 = h.holder.val ∧ (h.remaining ≤ 1000000 → b 4 4 = h.remaining)
      | none => b 0 2 = 0 ∧ b 4 4 = 0
  evpeek : s.registerBytes p .evpeek = match (s.port p).queue with
    | r :: _ => r.bytes
    | [] => List.replicate 16 0
  evcnt : let b := bytesAt (s.registerBytes p .evcnt)
    ((s.port p).queue.length ≤ 16 → b 0 1 = (s.port p).queue.length) ∧ b 1 7 = 0
  attnen : let b := bytesAt (s.registerBytes p .attnen)
    b 0 2 = (s.port p).attnEnable.toNat ∧ b 2 6 = 0
  wstgHost : let b := bytesAt (s.registerBytes p .wstgHost)
    match (s.port p).staging.base with
    | some n => (n < 2 ^ 36 → b 0 7 = n) ∧ b 7 1 = 1
    | none => b 0 8 = 0
  wstgSize : let b := bytesAt (s.registerBytes p .wstgSize)
    match (s.port p).staging.size with
    | some n => (n ≤ 2 ^ 32 → b 0 7 = n) ∧ b 7 1 = 1
    | none => b 0 8 = 0
  wstgDest : let b := bytesAt (s.registerBytes p .wstgDest)
    match (s.port p).staging.dest with
    | some (r, n) => (n < 2 ^ 32 → b 0 6 = n) ∧ b 6 1 = r.number ∧ b 7 1 = 1
    | none => b 0 8 = 0
  wstgRights : let b := bytesAt (s.registerBytes p .wstgRights)
    match (s.port p).staging.rights with
    | some list => list.shownAs (b 0 1) ∧ b 1 6 = 0 ∧ b 7 1 = 1
    | none => b 0 8 = 0
  wviewSel : let b := bytesAt (s.registerBytes p .wviewSel)
    b 0 1 = (s.port p).wviewSel.val ∧ b 1 7 = 0
  tviewSel : let b := bytesAt (s.registerBytes p .tviewSel)
    b 0 1 = (s.port p).tviewSel.val ∧ b 1 7 = 0
  wview : (s.window (s.port p).wviewSel).Shown (s.port p).wviewSel (s.registerBytes p .wview)
  tview : ∀ e, s.drt.find? (fun x => x.tag == (s.port p).tviewSel) = some e → e.Shown (s.registerBytes p .tview)
  tviewFree : (∀ e ∈ s.drt, e.tag ≠ (s.port p).tviewSel) →
    bytesAt (s.registerBytes p .tview) 0 1 = (s.port p).tviewSel.val ∧ bytesAt (s.registerBytes p .tview) 1 15 = 0
  qstat : let b := bytesAt (s.registerBytes p .qstat)
    (s.pwq.length ≤ 16 → b 0 1 = s.pwq.length) ∧ b 2 2 = s.lastSequence.toNat ∧ b 6 2 = 0 ∧
      match s.pwq with
      | h :: _ => b 1 1 = 1 ∧ b 4 2 = h.sequence.toNat
      | [] => b 1 1 = 0 ∧ b 4 2 = 0
  discardIv : let b := bytesAt (s.registerBytes p .discardIv)
    (s.discardInterval ≤ 4095 → b 0 2 = s.discardInterval) ∧ b 2 6 = 0
  leaseIv : let b := bytesAt (s.registerBytes p .leaseIv)
    (s.claim.interval ≤ 1000 → b 0 2 = s.claim.interval) ∧ b 2 6 = 0
  xbTimeout : let b := bytesAt (s.registerBytes p .xbTimeout)
    (s.xbm.timeout ≤ 1023 → b 0 2 = s.xbm.timeout) ∧ b 2 6 = 0

/-! ## Laws of the device -/

/-- R94: the contents of the store are in canonical form, every listed offset inside the store. -/
abbrev State.storeCanonical (s : State) : Prop :=
  s.mem.wf = true

/-- R16: no two windows in ENABLED or DRAINING have overlapping bridge address ranges. -/
abbrev State.windowsDisjoint (s : State) : Prop :=
  ∀ v w : WindowId, v ≠ w → (s.window v).state ≠ .disabled → (s.window w).state ≠ .disabled →
    (s.window v).overlaps (s.window w) = false

/-- R2, R3: the limits a window's fields always meet. -/
abbrev Window.fieldsOk (win : Window) : Prop :=
  isWindowSize win.size = true ∧ win.bridgeBase % win.size = 0 ∧ win.destBase % win.size = 0 ∧
    win.bridgeBase ≤ Config.bridgeSize - Config.pageSize ∧ win.destBase + win.size ≤ win.resource.size

/-- R11: a staged field that is present holds one of its values. -/
abbrev Staging.fieldsOk (st : Staging) : Prop :=
  (∀ n ∈ st.base, n % Config.pageSize = 0 ∧ n ≤ Config.bridgeSize - Config.pageSize) ∧
    (∀ n ∈ st.size, isWindowSize n = true) ∧
    (∀ d ∈ st.dest, d.2 % Config.pageSize = 0 ∧ d.2 ≤ d.1.size - Config.pageSize)

/-- R3, R11: the limits of every window and of every staging record. -/
abbrev State.windowFieldsOk (s : State) : Prop :=
  (∀ w : WindowId, (s.window w).fieldsOk) ∧ (∀ p : PortId, (s.port p).staging.fieldsOk)

/-- R6: the number of PWQ entries plus the number of non-FREE DRT entries that name a window. -/
def State.references (s : State) (w : WindowId) : Nat :=
  s.pwq.countP (fun x => x.window == w) + s.drt.countP (fun e => e.window == w)

/-- R6, R5: each reference count is the number of entries that name the window; it is 0 while the window is
DISABLED and at least 1 while it is DRAINING. -/
abbrev State.refCountsOk (s : State) : Prop :=
  ∀ w : WindowId, (s.window w).refCount = s.references w ∧
    ((s.window w).state = .disabled → (s.window w).refCount = 0) ∧
    ((s.window w).state = .draining → 1 ≤ (s.window w).refCount)

/-- R28: each entry is in the allocation-order list once. -/
abbrev State.tagsDistinct (s : State) : Prop :=
  s.drt.Pairwise (fun a b => a.tag ≠ b.tag)

/-- R30: no two entries in WAITING, FETCHING or READY have the same owner and the same match key. -/
abbrev State.keysDistinct (s : State) : Prop :=
  s.drt.Pairwise (fun a b => a.live = true → b.live = true →
    ¬(a.owner = b.owner ∧ a.kind = b.kind ∧ a.addr = b.addr ∧ a.count = b.count))

/-- R37: at most one entry per resource is FETCHING or ORPHANED. -/
abbrev State.oneFetchPerResource (s : State) : Prop :=
  s.drt.countP (Entry.occupies .ls) ≤ 1 ∧ s.drt.countP (Entry.occupies .xb) ≤ 1

/-- R72: no writes-ahead and no refetch-after exceeds the PWQ occupancy. -/
abbrev Phase.fenceWithin (occupancy : Nat) (phase : Phase) : Prop :=
  match phase with
  | .waiting n => n ≤ occupancy
  | .fetching (some n) => n ≤ occupancy
  | _ => True

/-- R72, R67, R86: fences within the occupancy, freshness counts at most 4, and no SWAP with a refetch-after. -/
abbrev State.fencesOk (s : State) : Prop :=
  ∀ e ∈ s.drt, e.phase.fenceWithin s.pwq.length ∧ e.fresh ≤ Config.freshLimit ∧
    (e.kind ≠ .read → ∀ n, e.phase ≠ .fetching (some n))

/-- R34: no port is charged with more than 5 entries, and the shared charge never exceeds 6. -/
abbrev State.chargesOk (s : State) : Prop :=
  (∀ p : PortId, s.charge p ≤ 5) ∧ s.sharedCharge ≤ 6

/-- R59: the sequences from head to tail pass in unbroken order and end at the last-accepted sequence. -/
def sequencesEndAt (last : BitVec 16) : List PostedWrite → Bool
  | [] => true
  | [w] => w.sequence == last
  | v :: w :: rest => w.sequence == v.sequence + 1 && sequencesEndAt last (w :: rest)

/-- R71: at most 16 entries, at most 8 from any one port, in acceptance order, and only the head in flight. -/
abbrev State.queueOk (s : State) : Prop :=
  s.pwq.length ≤ Config.queueLimit ∧ (∀ p : PortId, s.queueCount p ≤ Config.portQueueLimit) ∧
    sequencesEndAt s.lastSequence s.pwq = true ∧ (∀ w ∈ s.pwq.tail, w.inFlight = false)

/-- R145: the holder of the claim is ONLINE. -/
abbrev State.holderOnline (s : State) : Prop :=
  ∀ h ∈ s.claim.held, s.online h.holder = true

/-- R162: at most 16 records, at most one of them OVERFLOW, and an OVERFLOW record is the newest; its count is 1
to 255. -/
def recordsOk : List Record → Bool
  | [] => true
  | [r] => match r with
    | .overflow n => 1 ≤ n && n ≤ Config.overflowLimit
    | _ => true
  | r :: rest => match r with
    | .overflow _ => false
    | _ => recordsOk rest

/-- R161, R162: the law of the event queue. -/
def Port.queueOk (port : Port) : Bool :=
  recordsOk port.queue &&
    (port.queue.length ≤ Config.recordLimit ||
      (port.queue.length == Config.recordLimit + 1 &&
        match port.queue.getLast? with
        | some (.overflow _) => true
        | _ => false))

/-- R162: the law of every event queue. -/
abbrev State.eventQueuesOk (s : State) : Prop :=
  ∀ p : PortId, (s.port p).queueOk = true

/-- R139: a port that is not ONLINE owns no entry in WAITING, FETCHING or READY, and has an empty event queue and an
empty staging record. -/
abbrev State.absentPortsClear (s : State) : Prop :=
  ∀ p : PortId, s.online p = false →
    (∀ e ∈ s.drt, e.owner = p → e.live = false) ∧ (s.port p).queue = [] ∧
      (s.port p).staging = Staging.empty

/-- R130, R132, R138: at most 4 frames in a buffer, a request in hand is at the head of its buffer, and an OFFLINE
port has neither frames nor a request in hand. -/
abbrev Port.bufferOk (port : Port) : Prop :=
  port.buffer.length ≤ Config.bufferSize ∧ (port.inHand.isSome = true → port.buffer ≠ []) ∧
    (port.state = .offline → port.buffer = [] ∧ port.inHand = none)

/-- R130, R132, R138: the law of every input buffer. -/
abbrev State.buffersOk (s : State) : Prop :=
  ∀ p : PortId, (s.port p).bufferOk

/-- R168, R169: OVERFLOW is always in the attention enable set, which holds record kinds alone. -/
abbrev State.attnEnablesOk (s : State) : Prop :=
  ∀ p : PortId, (s.port p).attnEnable.getLsbD 10 = true ∧
    (s.port p).attnEnable &&& ~~~Config.allKinds = 0

/-- R43, R121, R153: the three settings are within their ranges. -/
abbrev State.settingsOk (s : State) : Prop :=
  (1 ≤ s.discardInterval ∧ s.discardInterval ≤ 4095) ∧ (1 ≤ s.claim.interval ∧ s.claim.interval ≤ 1000) ∧
    (1 ≤ s.xbm.timeout ∧ s.xbm.timeout ≤ 1023)

/-- R44, R113, R145: no timer holds more than its longest setting, and a claim that is held has 1 us left at least; its
expiry is due when the last one has passed (assumption 4). -/
abbrev State.timersBounded (s : State) : Prop :=
  (∀ e ∈ s.drt, ∀ r n, e.phase = .ready r n → n ≤ 65520) ∧
    (∀ h ∈ s.claim.held, 1 ≤ h.remaining ∧ h.remaining ≤ 1000000 ∧ (h.due = true → h.remaining = 1)) ∧
    (∀ t, s.xbm.bus = .active t → t.remaining ≤ 1023)

/-- R123, R144: while device reset is in force every port is OFFLINE, the bus state is RESET, and the store, the PWQ,
the DRT and the claim are as device reset leaves them. -/
abbrev State.resetQuiet (s : State) : Prop :=
  (s.inReset = true ↔ s.xbm.bus = .reset) ∧
    (s.inReset = true → (∀ p : PortId, (s.port p).state = .offline) ∧ s.store = none ∧ s.drt = [] ∧
      s.pwq = [] ∧ s.claim = Claim.reset)

/-- R100, R117: neither arbiter leaves its resource idle while something requests it. -/
abbrev State.workConserving (s : State) : Prop :=
  (s.inReset = false → s.store = none → ∀ pos, s.positionRequests pos = false) ∧
    (s.xbm.bus = .idle → s.drainRequests .xb = false ∧ s.fetchRequests .xb = false)

/-- R37, R69, R70, R109: what the store and the bus are busy with is there: a drain serves the head of the queue, which
is in flight, a fetch serves an entry that is FETCHING or ORPHANED, and a transaction carries the destination and the
byte count of what it serves. -/
abbrev State.agentsOk (s : State) : Prop :=
  (s.store = some .drain → ∃ h ∈ s.pwq.head?, h.resource = .ls ∧ h.inFlight = true) ∧
    (s.store = some .fetch → ∃ e ∈ s.drt, e.occupies .ls = true) ∧
    (∀ t, s.xbm.bus = .active t → t.stream = .drain →
      ∃ h ∈ s.pwq.head?, h.resource = .xb ∧ h.inFlight = true ∧ t.address = h.dest ∧ t.count = h.data.length) ∧
    (∀ t, s.xbm.bus = .active t → t.stream = .fetch →
      ∃ e ∈ s.drt, e.occupies .xb = true ∧ t.address = e.dest ∧ t.count = e.count)

/-- R8, R95, R107: every destination range lies inside its resource, and a SWAP acts on 8 bytes. -/
abbrev State.rangesOk (s : State) : Prop :=
  (∀ e ∈ s.drt, e.dest + e.count ≤ e.resource.size ∧ (e.kind ≠ .read → e.count = 8)) ∧
    (∀ w ∈ s.pwq, w.dest + w.data.length ≤ w.resource.size) ∧
    (∀ p : PortId, ∀ r ∈ (s.port p).readInHand, r.offset + r.count ≤ Config.storeSize)

/-- R35, R63 to R67: whether the fence of an entry covers the queued write at place `i`, counted from 0 at the head. -/
def Phase.fencedBehind (i : Nat) : Phase → Prop
  | .waiting n => i < n
  | .fetching (some n) => i < n
  | .fetching none => False
  | .ready _ _ => False
  | .orphaned => True

/-- The ordering guarantee of the broker: a READ below the freshness limit, whatever its state, is fenced behind every
queued write that overlaps it, so that no fetch begins and no result stands while such a write is still to be
delivered. -/
abbrev State.readsOrdered (s : State) : Prop :=
  ∀ e ∈ s.drt, e.kind = .read → e.fresh < Config.freshLimit →
    ∀ i w, s.pwq[i]? = some w → e.resource = w.resource →
      rangesOverlap e.dest e.count w.dest w.data.length = true → e.phase.fencedBehind i

end Sys2Proof.Machine
end

