-- ==== Sys2Proof/Certificates/Slice0/Obligations.lean ====
section
/-! DEFINITION. The statements about the broker, in the order of OBLIGATIONS.json. Each docstring names the rules of spec/
that the statement formalises, and the log entry of any choice of the model it rests on. `s.answer p r` is the state in
which port p has decided the response r to the request in hand, and is otherwise s (`Resend` spells it out);
`EveryFrameTakenIsAnsweredOnce` says when the response leaves: before the next command, whatever that is; and
`ArbitersStayWorkConserving` that grants are made then too. So a statement about a state in which every response has left
and every grant is made (`s.atRest`) reaches every other state through these two; and where a command may come before a grant
(R24, R53, R105, R143), its own statement says what it does from `s.grantsBefore`, which `Grants` describes. -/

open Sys2Proof Sys2Proof.Machine

/-! ## The machine -/

/-- A step carries out the command at the front of the queue on the state with the queue's rest. With nothing waiting, the
responses that have been decided leave with their frames (R130, R132), the grants that are due are made (R100, R117), and the
block idles otherwise (the model's choice, assumptions 1, 5 and 11). -/
def Obligations.StepRunsTheFrontCommand : Prop :=
  (∀ (c : Instr) (s : State), step { s with pending := c :: s.pending } = exec c s) ∧
    ∀ s : State, s.pending = [] → ∃ t : State, step s = .next t.settle ∧ t = { s with ports := t.ports } ∧
      ∀ p, t.port p = match (s.port p).inHand with
        | some (.decided r) =>
          { s.port p with
            buffer := (s.port p).buffer.tail, inHand := none, sent := (s.port p).sent ++ [.response r] }
        | _ => s.port p

/-- Every command answers a next state and leaves the queue of commands that wait as it is (the model's queue, assumption
1), but for the completion of a store access that would run outside the store, which R95 excludes (assumption 10;
`AccessesStayInside` shows that no run reaches it). -/
def Obligations.OnlyAStoreCompletionCanStop : Prop :=
  ∀ (c : Instr) (s : State), (∃ t, exec c s = .next t ∧ t.pending = s.pending) ∨
    (c = .lsAccessCompletion ∧ exec c s = .fault .storeRange ∧
      ∃ pos, s.settle.store = some pos ∧
        Config.storeSize < (s.settle.accessRange pos).1 + (s.settle.accessRange pos).2)

/-! ## Frames (R173 to R178) -/

/-- R174, R175: a request frame passes its integrity check and reads back as the request it was built from, each kind with
its own fields over their whole range; and it is a frame of its kind's row. -/
def Obligations.RequestFramesReadBack : Prop :=
  (∀ addr count : Nat, addr < 2 ^ 36 → count < 2 ^ 16 →
    let f := readFrame addr count
    f.intact = true ∧ f.kind = some .read ∧ f.addr = addr ∧ f.count = count ∧ f.payload .read = [] ∧ f.row = .read) ∧
  (∀ (addr : Nat) (data : List Byte), addr < 2 ^ 36 → data.length < 2 ^ 16 →
    let f := writeFrame addr data
    f.intact = true ∧ f.kind = some .write ∧ f.addr = addr ∧ f.count = data.length ∧ f.payload .write = data ∧
      f.row = .write) ∧
  (∀ (addr : Nat) (old new : List Byte), addr < 2 ^ 36 → old.length = 8 → new.length = 8 →
    let f := swapFrame addr old new
    f.intact = true ∧ f.kind = some .swap ∧ f.addr = addr ∧ f.compareValue = old ∧ f.swapValue = new ∧
      f.payload .swap = [] ∧ f.row = .swap) ∧
  (∀ offset length : Nat, offset < 2 ^ 16 → length < 2 ^ 16 →
    let f := ctlReadFrame offset length
    f.intact = true ∧ f.kind = some .ctlRead ∧ f.offset = offset ∧ f.count = length ∧ f.payload .ctlRead = []) ∧
  (∀ (offset : Nat) (value : List Byte), offset < 2 ^ 16 → value.length < 2 ^ 16 →
    let f := ctlWriteFrame offset value
    f.intact = true ∧ f.kind = some .ctlWrite ∧ f.offset = offset ∧ f.count = value.length ∧
      f.payload .ctlWrite = value)

/-- R173, R176, R177, R178, R183: a response frame passes its integrity check and is 8 bytes of header, the payload and the
CRC; a record is 16 bytes; a readable register has the width the map gives it. Every byte of a header and of a record
holds the field that R176 and R177 give it, least significant byte first, with the codes of R183. What the registers hold,
field by field, `OtherControlRequests` says. -/
def Obligations.WhatIsSentHasItsWidth : Prop :=
  (∀ (l : List Byte) (i n : Nat), bytesAt l i 0 = 0 ∧
    (i < l.length → bytesAt l i (n + 1) = (l[i]?.getD 0).toNat + 256 * bytesAt l (i + 1) n)) ∧
  (∀ r : Response, r.frame.intact = true ∧
    r.frame.length = 10 + (match r with | .data payload _ => payload.length | _ => 0) ∧
    let b := bytesAt r.frame
    match r with
    | .data payload outcome => b 0 1 = 1 ∧ b 1 1 = 0 ∧ (payload.length < 2 ^ 16 → b 2 2 = payload.length) ∧ b 4 2 = 0 ∧
      b 6 1 = (match outcome with | none => 0 | some .exchanged => 1 | some .notExchanged => 2) ∧ b 7 1 = 0 ∧
      (r.frame.drop 8).take payload.length = payload
    | .done sequence => b 0 1 = 2 ∧ b 1 3 = 0 ∧ b 4 2 = (match sequence with | none => 0 | some n => n.toNat) ∧ b 6 2 = 0
    | .retry reason => b 0 1 = 3 ∧ b 2 6 = 0 ∧
      b 1 1 = match reason with | .pending => 1 | .noSlot => 2 | .queueFull => 3
    | .refused reason => b 0 1 = 4 ∧ b 2 6 = 0 ∧ b 1 1 = match reason with
      | .malformed => 1
      | .notJoined => 2
      | .noWindow => 3
      | .denied => 4
      | .notSupported => 5
      | .targetError => 6
      | .targetTimeout => 7
      | .unknownOffset => 8
      | .wrongAccess => 9
      | .notHolder => 10
      | .claimed => 11
      | .wrongState => 12
      | .badValue => 13
      | .overlap => 14
      | .portAbsent => 15
    | .resend => b 0 1 = 5 ∧ b 1 7 = 0) ∧
  (∀ r : Record, r.bytes.length = 16 ∧
    let b := bytesAt r.bytes
    let faultCode : FaultCause → Nat := fun | .error => 1 | .timeout => 2
    match r with
    | .notice source payload => b 0 1 = 1 ∧ b 1 1 = source.val ∧ b 2 6 = 0 ∧ b 8 4 = payload.toNat ∧ b 12 4 = 0
    | .discard tag addr count cause performed => b 0 1 = 2 ∧ b 1 1 = 0 ∧
      b 2 1 = (match cause with | .expired => 1 | .purged => 2 | .rights => 3) ∧ b 3 1 = tag.val ∧
      b 4 1 = (match performed with | none => 1 | some _ => 3) ∧
      b 5 1 = (match performed with | none => 0 | some false => 1 | some true => 2) ∧
      (count ≤ 256 → b 6 2 = count) ∧ (addr < 2 ^ 36 → b 8 5 = addr) ∧ b 13 3 = 0
    | .writeFault sequence addr count window cause => b 0 1 = 3 ∧ b 1 1 = 0 ∧ b 2 1 = faultCode cause ∧
      b 3 1 = window.val ∧ b 4 2 = sequence.toNat ∧ (count ≤ 256 → b 6 2 = count) ∧ (addr < 2 ^ 36 → b 8 5 = addr) ∧
      b 13 3 = 0
    | .orphanFault sequence addr count window cause source => b 0 1 = 4 ∧ b 1 1 = source.val ∧ b 2 1 = faultCode cause ∧
      b 3 1 = window.val ∧ b 4 2 = sequence.toNat ∧ (count ≤ 256 → b 6 2 = count) ∧ (addr < 2 ^ 36 → b 8 5 = addr) ∧
      b 13 3 = 0
    | .claimExpired => b 0 1 = 5 ∧ b 1 15 = 0
    | .claimFreed former => b 0 1 = 6 ∧ b 1 1 = former.val ∧ b 2 14 = 0
    | .windowChanged window state => b 0 1 = 7 ∧ b 1 2 = 0 ∧ b 3 1 = window.val ∧
      b 4 1 = (match state with | .disabled => 0 | .enabled => 1 | .draining => 2) ∧ b 5 11 = 0
    | .portJoined port => b 0 1 = 8 ∧ b 1 1 = port.val ∧ b 2 14 = 0
    | .portLeft port cause => b 0 1 = 9 ∧ b 1 1 = port.val ∧
      b 2 1 = (match cause with | .leave => 1 | .link => 2 | .evicted => 3) ∧ b 3 13 = 0
    | .overflow count => b 0 1 = 10 ∧ b 1 3 = 0 ∧ (count ≤ 255 → b 4 1 = count) ∧ b 5 11 = 0) ∧
  ∀ (s : State) (p : PortId) (r : Reg), r.readable = true → (s.registerBytes p r).length = r.width

/-! ## Reset -/

/-- R4, R28, R43, R59, R94, R98, R108, R116, R121, R124, R145, R168: the values that device reset leaves, after a power-on
whose reset has ended (that this is the state of reset is assumption 9; that nothing has been sent by then and that no
command waits are the model's choices, assumptions 5 and 1). -/
def Obligations.ResetValues : Prop :=
  (∀ p : PortId, State.reset.port p =
    { state := .offline, buffer := [], inHand := none, dropped := false, staging := Staging.empty, wviewSel := 0
      tviewSel := 0, attnEnable := 0x07FE#16, queue := [], sent := [] }) ∧
  (∀ w : WindowId, State.reset.window w =
    { state := .disabled, bridgeBase := 0, size := 4096, resource := .ls, destBase := 0
      rights := #v[.none, .none, .none, .none], refCount := 0 }) ∧
  State.reset.drt = [] ∧ State.reset.discardInterval = 2048 ∧ State.reset.pwq = [] ∧
  State.reset.lastSequence = 0 ∧ State.reset.claim = { held := none, interval := 250 } ∧
  (∀ a, State.reset.mem.read a = 0) ∧ State.reset.store = none ∧ State.reset.lastPosition = .fetch ∧
  State.reset.xbm = { bus := .idle, lastNumber := 0, timeout := 64, lastStream := .fetch } ∧
  State.reset.inReset = false ∧ State.reset.pending = []

/-- The laws that the manual states of the device hold of the state after reset. -/
def Obligations.ResetMeetsTheLaws : Prop :=
  let s := State.reset
  s.storeCanonical ∧ s.windowsDisjoint ∧ s.windowFieldsOk ∧ s.refCountsOk ∧ s.tagsDistinct ∧ s.keysDistinct ∧
    s.oneFetchPerResource ∧ s.fencesOk ∧ s.chargesOk ∧ s.queueOk ∧ s.holderOnline ∧ s.eventQueuesOk ∧
    s.absentPortsClear ∧ s.buffersOk ∧ s.attnEnablesOk ∧ s.settingsOk ∧ s.timersBounded ∧ s.resetQuiet ∧
    s.workConserving ∧ s.agentsOk ∧ s.rangesOk ∧ s.readsOrdered

/-- R185, R186: power-on and the assertion of the reset input start device reset, the second with the contents of the
store as they are; device reset lasts until the input is deasserted and the clearing is complete, whichever ends later;
after the clearing every byte of the store is 0. An assertion while device reset is in force, and the end of an assertion
or of a clearing that is not there, are as assumption 2 says; that power-on keeps the level of the reset input is assumption
9; that what was sent and driven stands is assumption 5, and whether a response decided before has left in time is open
(assumption 17). -/
def Obligations.ResetCommands : Prop :=
  (∀ s : State, ∃ t, exec .powerOn s = .next t ∧ s.DeviceReset t ∧ t.clearing = true ∧ t.resetInput = s.resetInput ∧
    t.busResetOutput = true ∧ ∀ p, t.linkOffered p = false) ∧
  (∀ s : State, s.atRest → s.clearing = true → ∃ t, exec .storeClearingComplete s = .next t ∧
    t = { s with clearing := false, mem := t.mem, xbm := t.xbm } ∧ (∀ a, t.mem.read a = 0) ∧
    t.xbm = (if s.resetInput = true then s.xbm else { s.xbm with bus := .idle }) ∧
    t.busResetOutput = s.resetInput) ∧
  (∀ s : State, s.atRest → s.clearing = false → exec .storeClearingComplete s = .next s) ∧
  (∀ s : State, s.inReset = false → ∃ t, exec .resetInputAsserted s = .next t ∧ s.DeviceReset t ∧
    t.resetInput = true ∧ t.clearing = s.clearing ∧ t.mem = s.mem ∧ t.busResetOutput = true) ∧
  (∀ s : State, s.atRest → s.inReset = true → exec .resetInputAsserted s = .next { s with resetInput := true }) ∧
  (∀ s : State, s.atRest → s.resetInput = true → exec .resetInputDeasserted s = .next
    { s with
      resetInput := false
      xbm := if s.clearing = true then s.xbm else { s.xbm with bus := .idle } }) ∧
  ∀ s : State, s.atRest → s.resetInput = false → exec .resetInputDeasserted s = .next s

/-! ## The timebase and the three expiries (R184, R45, R113, R151) -/

/-- R184, R44, R113, R150: where no expiry is due, a unit lowers every running timer by 1 and does nothing else; the last
unit of a lease makes its expiry due. Where an expiry is due, the expiries come first, as if their commands had been sent.
That order, and that a lease whose expiry is due still shows 1, are the model's choices (assumption 4). -/
def Obligations.TimebaseUnit : Prop :=
  let lowered : State → State := fun s =>
    { s with
      drt := s.drt.map (fun e => match e.phase with
        | .ready result remaining => { e with phase := .ready result (remaining - 1) }
        | _ => e)
      claim := { s.claim with held := s.claim.held.map (fun h =>
        if h.remaining ≤ 1 then { h with due := true } else { h with remaining := h.remaining - 1 }) }
      xbm := { s.xbm with bus := match s.xbm.bus with
        | .active t => .active { t with remaining := t.remaining - 1 }
        | bus => bus } }
  (∀ s : State, s.atRest → (∀ e ∈ s.drt, ∀ result, e.phase ≠ .ready result 0) → (∀ h ∈ s.claim.held, h.due = false) →
    (∀ t, s.xbm.bus = .active t → t.remaining ≠ 0) → exec .timebaseUnit s = .next (lowered s)) ∧
  ∀ s u : State, s.tagsDistinct →
    runCommands (tagIds.map Instr.discardExpiry ++ [.leaseExpiry, .expansionTimeout]) s = .next u →
    exec .timebaseUnit s = .next (lowered u)

/-- R45: the READY entry whose discard remaining is 0 is freed, its window's reference is released, a DRAINING window it
was the last to hold becomes DISABLED, and DISCARD (EXPIRED) goes to its owner. The order of that record and of a
WINDOW_CHANGED is left open (assumption 16). Where no such entry has the tag nothing changes (assumption 2). -/
def Obligations.DiscardExpiry : Prop :=
  (∀ (s : State) (e : Entry) (result : FetchResult), s.atRest → s.tagsDistinct → e ∈ s.drt → e.phase = .ready result 0 →
    let win := s.window e.window
    let r := Record.discard e.tag e.addr e.count .expired (match e.kind with | .read => none | .swap _ _ => some true)
    let gone := Record.windowChanged e.window .disabled
    let ends := win.state = .draining ∧ win.refCount ≤ 1
    ∃ (t : State) (both : List Record), exec (.discardExpiry e.tag) s = .next t ∧
      (both = [r, gone] ∨ both = [gone, r]) ∧
      t = { s with
        drt := s.drt.filter (fun x => x.tag != e.tag), windows := t.windows, ports := t.ports
        choices := s.choices + 1 } ∧
      (∀ w, t.window w = if w = e.window then win.released 1 else s.window w) ∧
      s.announces t (fun p =>
        if p = e.owner then (if ends then both else [r]) else if ends then [gone] else [])) ∧
  ∀ (s : State) (tag : Tag), s.atRest → (∀ e ∈ s.drt, e.tag = tag → ∀ result, e.phase ≠ .ready result 0) →
    exec (.discardExpiry tag) s = .next s

/-- R151: a lease that has reached 0, which is to say that its last unit has come (assumption 4), expires: the claim becomes
free, CLAIM_EXPIRED goes to the former holder and CLAIM_FREED to every other ONLINE port, and nothing else changes. A
lease that has not reached 0 does not expire (assumption 2). -/
def Obligations.LeaseExpiry : Prop :=
  (∀ (s : State) (p : PortId) (n : Nat), s.atRest → s.claim.held = some { holder := p, remaining := n, due := true } →
    ∃ t, exec .leaseExpiry s = .next t ∧
      t = { s with claim := { held := none, interval := s.claim.interval }, ports := t.ports } ∧
      s.announces t (fun q => if q = p then [.claimExpired] else [.claimFreed p])) ∧
  ∀ s : State, s.atRest → (∀ h ∈ s.claim.held, h.due = false) → exec .leaseExpiry s = .next s

/-! ## Links (R125, R130, R131, R138) -/

/-- R125: an OFFLINE port offers its link whenever device reset is not in force; when the link comes up it becomes
ATTACHED with an empty buffer, no request in hand and four credits, and nothing else changes. That LINK_UP at a port which
does not offer its link changes nothing is the model's choice (assumption 2). -/
def Obligations.LinkUp : Prop :=
  (∀ (s : State) (p : PortId), s.linkOffered p = true ↔
    (s.port p).state = .offline ∧ s.resetInput = false ∧ s.clearing = false) ∧
  (∀ (s : State) (p : PortId), s.atRest → s.linkOffered p = true → ∃ t, exec (.linkUp p) s = .next t ∧
    t = { s with ports := t.ports } ∧
    t.port p = { s.port p with state := .attached, buffer := [], inHand := none } ∧ (t.port p).credits = 4 ∧
    ∀ q, q ≠ p → t.port q = s.port q) ∧
  ∀ (s : State) (p : PortId), s.atRest → s.linkOffered p = false → exec (.linkUp p) s = .next s

/-- R130, R131, R143: a frame that arrives while the link is up joins the newest end of a buffer that holds fewer than 4; at
a full buffer it is not added, and the port takes its link down as LINK_DOWN with cause LINK_FAULT does (assumption 13).
Where a response is decided for the head of a full buffer, it has left by then, and the frame arrives after it, or it is
discarded; which is open (assumption 17). An OFFLINE port receives no frame (assumption 2). -/
def Obligations.FrameArrival : Prop :=
  ∀ (s : State) (p : PortId) (f : Frame),
    let chosen : State := { s with choices := s.choices + 1 }
    (s.atRest → (s.port p).state = .offline → exec (.frameArrival p f) s = .next s) ∧
    (s.atRest → (s.port p).state ≠ .offline → (s.port p).buffer.length < 4 → ∃ t, exec (.frameArrival p f) s = .next t ∧
      t = { s with ports := t.ports } ∧ t.port p = { s.port p with buffer := (s.port p).buffer ++ [f] } ∧
      (t.port p).credits + 1 = (s.port p).credits ∧ ∀ q, q ≠ p → t.port q = s.port q) ∧
    (s.allSent → (s.port p).state ≠ .offline → 4 ≤ (s.port p).buffer.length →
      exec (.frameArrival p f) s = exec (.linkDown p .linkFault) s) ∧
    ∀ r, (s.port p).state ≠ .offline → 4 ≤ (s.port p).buffer.length → (s.port p).inHand = some (.decided r) →
      exec (.frameArrival p f) s = exec (.frameArrival p f) (chosen.modifyPort p (fun port =>
        { port with buffer := port.buffer.tail, inHand := none, sent := port.sent ++ [.response r] })) ∨
      (exec (.frameArrival p f) s = exec (.linkDown p .linkFault) s ∧
        ∃ t, exec (.frameArrival p f) s = .next t ∧ (t.port p).sent = (s.port p).sent ++ [.linkFault])

/-- R138, R105, R143: whatever the cause, the frames and the request in hand are discarded and the port becomes OFFLINE; an
immediate read that has been granted leaves a dropped access; an ONLINE port is then torn down with cause LINK. A response
that has been decided has left before, with its frame, or is discarded unsent, and which is open (assumption 17); the
effects of its request stand either way. A grant that is due to the port's immediate read, or to an entry that the teardown
reaches, comes before the link down or after (R53, R105, assumption 18); but where the response is discarded, what its request
allocated is in hand too, no grant has come before, and a delayed READ is freed (R143). LINK_FAULT is named to the host (R131;
that LINK_DOWN may carry it is assumption 13). A link that is down does not go down (assumption 2). -/
def Obligations.LinkDown : Prop :=
  ∀ (s : State) (p : PortId) (cause : LinkDownCause),
    let lost : Grantee → Bool := fun
      | .read q => q == p
      | .write => false
      | .entry e => s.online p && e.owner == p
    let chosen : State := { s with choices := s.choices + 1 }
    let discarded : State := chosen.modifyPort p (fun port => { port with inHand := none })
    let falls : State → Prop := fun u => ∃ v, v = { u with ports := v.ports } ∧
      v.port p =
        { u.port p with
          state := .offline
          buffer := []
          inHand := none
          dropped := (u.port p).dropped || (u.store == some (.port p) && (u.port p).inHand.isSome)
          sent := (u.port p).sent ++ (if cause = .linkFault then [.linkFault] else []) } ∧
      (∀ q, q ≠ p → v.port q = u.port q) ∧
      exec (.linkDown p cause) s = .next (if s.online p = true then v.teardown p .link else v)
    (s.atRest → (s.port p).state = .offline → exec (.linkDown p cause) s = .next s) ∧
    (s.allSent → (s.port p).state ≠ .offline → falls (s.grantsBefore lost)) ∧
    ∀ r, (∀ q, q ≠ p → (s.port q).decided = none) → (s.port p).state ≠ .offline →
      (s.port p).inHand = some (.decided r) →
      exec (.linkDown p cause) s = exec (.linkDown p cause) (chosen.modifyPort p (fun port =>
        { port with buffer := port.buffer.tail, inHand := none, sent := port.sent ++ [.response r] })) ∨
      falls (discarded.grantsBefore lost (fun _ => false))

/-- R139, R140, R50, R155: what a teardown does to the entries, the windows, the claim and every port, with the records
in their order; the Posted Write Queue, the settings, the store and the bus are left as they are. -/
def Obligations.Teardown : Prop :=
  ∀ (s : State) (p : PortId) (cause : LeaveCause), s.tagsDistinct → s.online p = false →
    let t := s.teardown p cause
    let freed : Entry → Bool := fun e => e.owner == p && match e.phase with
      | .waiting _ => true
      | .ready _ _ => true
      | _ => false
    let count : WindowId → Nat := fun w => s.drt.countP (fun e => freed e && e.window == w)
    let changed := windowIds.filter (fun w => (s.window w).state == .draining && (s.window w).refCount ≤ count w)
    t = { s with drt := t.drt, windows := t.windows, claim := t.claim, ports := t.ports } ∧
    t.drt = (s.drt.filter (fun e => !freed e)).map (fun e =>
      if e.owner = p then { e with phase := .orphaned } else e) ∧
    (∀ w, t.window w = (s.window w).released (count w)) ∧
    t.claim = (if s.holds p = true then { s.claim with held := none } else s.claim) ∧
    t.port p = { s.port p with queue := [], staging := Staging.empty, wviewSel := 0, tviewSel := 0 } ∧
    ∀ q, q ≠ p → t.port q = (s.port q).offerAll
      (.portLeft p cause :: changed.map (fun w => .windowChanged w .disabled) ++
        (if s.holds p = true then [.claimFreed p] else []))

/-! ## Traffic (R29, R60, R84) -/

/-- R128: a frame that fails its integrity check is answered RESEND and has no other effect. The frame keeps its place until
the response has left (R130). -/
def Obligations.Resend : Prop :=
  ∀ (s : State) (p : PortId) (f : Frame), s.atRest → s.frameToTake p = some f → f.intact = false →
    ∃ t, exec (.resend p) s = .next t ∧ t = { s with ports := t.ports } ∧
      t.port p = { s.port p with inHand := some (.decided .resend) } ∧ ∀ q, q ≠ p → t.port q = s.port q

/-- R129, R133, R7, R9, R34, R61, R84: a READ, WRITE or SWAP that is refused, or answered NO_SLOT or QUEUE_FULL, leaves
nothing but its answer; each check is made when those before it pass. -/
def Obligations.RefusedTraffic : Prop :=
  (∀ (s : State) (p : PortId) (f : Frame) (row : TakeRow), row ∈ [TakeRow.read, .write, .swap] → s.takes p row f →
    (f.wellFormed = false → exec (row.command p) s = .next (s.answer p (.refused .malformed))) ∧
    (f.wellFormed = true → s.online p = false →
      exec (row.command p) s = .next (s.answer p (.refused .notJoined)))) ∧
  (∀ (s : State) (p : PortId) (f : Frame), s.takesRequest p .read f → s.matching p .read f.addr f.count = none →
    (s.lookup f.addr = none → exec (.read p) s = .next (s.answer p (.refused .noWindow))) ∧
    ∀ w, s.lookup f.addr = some w →
      ((s.window w).rights[p].allowsRead = false → exec (.read p) s = .next (s.answer p (.refused .denied))) ∧
      ((s.window w).rights[p].allowsRead = true → ¬((s.window w).resource = .ls ∧ s.pwq = []) →
        ¬(s.charge p < 2 ∨ s.charge p < 5 ∧ s.sharedCharge ≤ 5) →
        exec (.read p) s = .next (s.answer p (.retry .noSlot)))) ∧
  (∀ (s : State) (p : PortId) (f : Frame), s.takesRequest p .write f →
    (s.lookup f.addr = none → exec (.write p) s = .next (s.answer p (.refused .noWindow))) ∧
    ∀ w, s.lookup f.addr = some w →
      ((s.window w).rights[p].allowsWrite = false → exec (.write p) s = .next (s.answer p (.refused .denied))) ∧
      ((s.window w).rights[p].allowsWrite = true →
        ¬(s.pwq.length < 16 ∧ s.pwq.countP (fun x => x.source == p) < 8) →
        exec (.write p) s = .next (s.answer p (.retry .queueFull)))) ∧
  ∀ (s : State) (p : PortId) (f : Frame), s.takesRequest p .swap f →
    s.matching p (.swap f.compareValue f.swapValue) f.addr 8 = none →
    (s.lookup f.addr = none → exec (.swap p) s = .next (s.answer p (.refused .noWindow))) ∧
    ∀ w, s.lookup f.addr = some w →
      ((s.window w).rights[p] ≠ .atomic → exec (.swap p) s = .next (s.answer p (.refused .denied))) ∧
      ((s.window w).rights[p] = .atomic → (s.window w).resource = .xb →
        exec (.swap p) s = .next (s.answer p (.refused .notSupported))) ∧
      ((s.window w).rights[p] = .atomic → (s.window w).resource = .ls →
        ¬(s.charge p < 2 ∨ s.charge p < 5 ∧ s.sharedCharge ≤ 5) →
        exec (.swap p) s = .next (s.answer p (.retry .noSlot)))

/-- R77, R103: a READ through an ENABLED LS window with the rights, while the queue holds no write, takes nothing but the
port's position at the store: its translated offset and byte count stay in hand, and the frame keeps its place. The grant
comes before the next command (`ArbitersStayWorkConserving`). -/
def Obligations.ImmediateRead : Prop :=
  ∀ (s : State) (p : PortId) (f : Frame) (w : WindowId), s.takesRequest p .read f →
    s.matching p .read f.addr f.count = none → s.lookup f.addr = some w →
    (s.window w).rights[p].allowsRead = true → (s.window w).resource = .ls → s.pwq = [] →
    exec (.read p) s = .next
      (s.modifyPort p (fun port =>
        { port with
          inHand := some (.read
            { offset := (s.window w).destBase + (f.addr - (s.window w).bridgeBase), count := f.count }) }))

/-- R35, R34: a READ or SWAP that is admitted is given the FREE entry with the lowest tag, in WAITING behind every write the
queue holds, and answered RETRY PENDING. A grant to it comes before the next command, or, where that takes the entry away
(R24, R53, R143), before or after its effect. -/
def Obligations.DelayedRequest : Prop :=
  let allocated : State → PortId → EntryKind → Nat → Nat → WindowId → Tag → State := fun s p kind addr count w tag =>
    let win := s.window w
    let listed : State := { s with
      drt := s.drt ++
        [{ tag := tag, owner := p, kind := kind, addr := addr, count := count, window := w
           resource := win.resource, dest := win.destBase + (addr - win.bridgeBase), fresh := 0
           phase := .waiting s.pwq.length }] }
    (listed.modifyWindow w (fun win => { win with refCount := win.refCount + 1 })).answer p (.retry .pending)
  (∀ (s : State) (p : PortId) (f : Frame) (w : WindowId), s.chargesOk → s.takesRequest p .read f →
    s.matching p .read f.addr f.count = none → s.lookup f.addr = some w →
    (s.window w).rights[p].allowsRead = true → ¬((s.window w).resource = .ls ∧ s.pwq = []) →
    (s.charge p < 2 ∨ s.charge p < 5 ∧ s.sharedCharge ≤ 5) →
    ∃ tag : Tag, (∀ e ∈ s.drt, e.tag ≠ tag) ∧ (∀ u < tag, ∃ e ∈ s.drt, e.tag = u) ∧
      exec (.read p) s = .next (allocated s p .read f.addr f.count w tag)) ∧
  ∀ (s : State) (p : PortId) (f : Frame) (w : WindowId), s.chargesOk → s.takesRequest p .swap f →
    s.matching p (.swap f.compareValue f.swapValue) f.addr 8 = none → s.lookup f.addr = some w →
    (s.window w).rights[p] = .atomic → (s.window w).resource = .ls →
    (s.charge p < 2 ∨ s.charge p < 5 ∧ s.sharedCharge ≤ 5) →
    ∃ tag : Tag, (∀ e ∈ s.drt, e.tag ≠ tag) ∧ (∀ u < tag, ∃ e ∈ s.drt, e.tag = u) ∧
      exec (.swap p) s = .next (allocated s p (.swap f.compareValue f.swapValue) f.addr 8 w tag)

/-- R31, R32, R42, R48, R53: a re-request is decided by the rights its port has now on the entry's window and by the entry's
state: RETRY PENDING, a collection, or REFUSED DENIED with DISCARD (RIGHTS). Where a grant to the entry is due, a refusal
comes before it or after (R53; `u` is the state then, and `e` the entry in it, assumption 18). -/
def Obligations.ReRequest : Prop :=
  ∀ (s : State) (p : PortId) (c : Instr) (matched : Entry), s.tagsDistinct → s.reRequests p c matched →
    let allowed := (s.window matched.window).rights[p].allows matched.kind
    let u := s.grantsBefore (fun g => g == .entry matched && !allowed)
    ∃ e : Entry, u.matching p matched.kind matched.addr matched.count = some e ∧ e = { matched with phase := e.phase } ∧
      let chosen : State := { u with choices := u.choices + 1 }
      let record := fun performed => Record.discard e.tag e.addr e.count .rights
        (match e.kind with | .read => none | .swap _ _ => some performed)
      if allowed = true then
        match e.phase with
        | .ready (.ok data outcome) _ => exec c s = .next ((u.freeEntry e).answer p (.data data outcome))
        | .ready .targetError _ => exec c s = .next ((u.freeEntry e).answer p (.refused .targetError))
        | .ready .targetTimeout _ => exec c s = .next ((u.freeEntry e).answer p (.refused .targetTimeout))
        | _ => exec c s = .next (u.answer p (.retry .pending))
      else
        match e.phase with
        | .waiting _ => exec c s =
          .next ((chosen.discardEntry e .rights false (Config.refusalRecordFirst u.choices)).answer p (.refused .denied)) ∧
          e.discardRecord .rights false = record false
        | .ready _ _ => exec c s =
          .next ((chosen.discardEntry e .rights true (Config.refusalRecordFirst u.choices)).answer p (.refused .denied)) ∧
          e.discardRecord .rights true = record true
        | _ => exec c s =
          .next (((u.offer p (record true)).setPhase e.tag .orphaned).answer p (.refused .denied))

/-- R27, R6, R19: an entry that becomes FREE leaves the list and releases its window's reference; a DRAINING window it was
the last to hold becomes DISABLED, announced to every ONLINE port. A discard besides offers its record to the owner, in
an order that is left open (assumption 16). -/
def Obligations.FreeingAnEntry : Prop :=
  ∀ (s : State) (e : Entry),
    let win := s.window e.window
    let gone := Record.windowChanged e.window .disabled
    let ends := win.state = .draining ∧ win.refCount ≤ 1
    let freed : State → Prop := fun t =>
      t = { s with drt := s.drt.filter (fun x => x.tag != e.tag), windows := t.windows, ports := t.ports } ∧
        ∀ w, t.window w = if w = e.window then win.released 1 else s.window w
    (freed (s.freeEntry e) ∧ s.announces (s.freeEntry e) (fun _ => if ends then [gone] else [])) ∧
    ∀ (cause : DiscardCause) (performed first : Bool),
      let r := e.discardRecord cause performed
      let t := s.discardEntry e cause performed first
      freed t ∧ s.announces t (fun p =>
        if p = e.owner then (if ends then (if first = true then [r, gone] else [gone, r]) else [r])
        else if ends then [gone] else [])

/-- R59, R61, R62, R53: an admitted WRITE joins the tail with the next sequence, its window's reference count rises, the
overlap check runs with the new occupancy, and it is answered DONE with its sequence. A grant that is due to an entry whose
fence it raises comes before it or after (R53; `u` is the state then, assumption 18). -/
def Obligations.WriteAccepted : Prop :=
  ∀ (s : State) (p : PortId) (f : Frame) (w : WindowId), s.settle.takesRequest p .write f → s.lookup f.addr = some w →
    (s.window w).rights[p].allowsWrite = true → s.pwq.length < 16 → s.pwq.countP (fun x => x.source == p) < 8 →
    let win := s.window w
    let dest := win.destBase + (f.addr - win.bridgeBase)
    let data := f.payload .write
    let u := s.grantsBefore (fun
      | .entry e => e.actedOn win.resource dest data.length
      | _ => false)
    let queued : State := { u with
      pwq := u.pwq ++
        [{ sequence := s.lastSequence + 1, source := p, window := w, addr := f.addr, resource := win.resource
           dest := dest, data := data, inFlight := false }]
      lastSequence := s.lastSequence + 1
      drt := u.drt.map (fun e : Entry => e.overlapCheck win.resource dest data.length (s.pwq.length + 1)) }
    exec (.write p) s = .next
      ((queued.modifyWindow w (fun win => { win with refCount := win.refCount + 1 })).answer p
        (.done (some (s.lastSequence + 1))))

/-- R63 to R67, R86: what the overlap check does to an entry, by resource, range, freshness, kind and state. -/
def Obligations.OverlapCheck : Prop :=
  ∀ (e : Entry) (r : Resource) (dest count occupancy : Nat),
    let e' := e.overlapCheck r dest count occupancy
    let hit := e.resource = r ∧ e.dest < dest + count ∧ dest < e.dest + e.count ∧ e.fresh < 4
    (¬hit → e' = e) ∧
    (hit → match e.phase with
      | .waiting _ => e' = { e with phase := .waiting occupancy, fresh := e.fresh + 1 }
      | .fetching _ =>
        e' = if e.kind = .read then { e with phase := .fetching (some occupancy), fresh := e.fresh + 1 } else e
      | .ready _ _ => e' = if e.kind = .read then { e with phase := .waiting occupancy, fresh := e.fresh + 1 } else e
      | .orphaned => e' = e)

/-! ## Control writes -/

/-- R133, R152, R179: for every control write that has a row: refused NOT_JOINED from a port that is not ONLINE but at
PJOIN, then NOT_HOLDER without the claim at a claim-required register, then WRONG_ACCESS at another length than the
register's 8; refused, it changes nothing else. -/
def Obligations.ControlWriteChecks : Prop :=
  ∀ (s : State) (p : PortId) (f : Frame) (row : TakeRow) (r : Reg), s.takes p row f → row.register = some r →
    (s.online p = false → r ≠ .pjoin → exec (row.command p) s = .next (s.answer p (.refused .notJoined))) ∧
    ((s.online p = true ∨ r = .pjoin) → r.claimRequired = true → s.holds p = false →
      exec (row.command p) s = .next (s.answer p (.refused .notHolder))) ∧
    ((s.online p = true ∨ r = .pjoin) → (r.claimRequired = true → s.holds p = true) →
      (f.payload .ctlWrite).length ≠ 8 → exec (row.command p) s = .next (s.answer p (.refused .wrongAccess)))

/-- R135, R136: JOIN makes an ATTACHED port ONLINE with an empty staging record and every record kind enabled, and tells
the other ONLINE ports; LEAVE makes an ONLINE port ATTACHED and tears it down, before or after a grant that is due to an
entry of the port (R53, assumption 18). Each is refused WRONG_STATE in the state it leads to. -/
def Obligations.JoinAndLeave : Prop :=
  ∀ (s : State) (p : PortId) (f : Frame), (f.payload .ctlWrite).length = 8 →
    (s.takes p .join f →
      (s.online p = true → exec (.join p) s = .next (s.answer p (.refused .wrongState))) ∧
      (s.online p = false → exec (.join p) s = .next
        (((s.modifyPort p (fun port =>
          { port with state := .online, staging := Staging.empty, attnEnable := 0x07FE#16 })).broadcastExcept p
          (.portJoined p)).answer p (.done none)))) ∧
    (s.settle.takes p .leave f →
      (s.online p = false → exec (.leave p) s = .next (s.settle.answer p (.refused .wrongState))) ∧
      (s.online p = true → exec (.leave p) s = .next
        ((((s.grantsBefore (Grantee.ownedBy p)).modifyPort p (fun port =>
          { port with state := .attached })).teardown p .leave).answer p (.done none))))

/-- R154, R137: EVICT by the holder: BAD_VALUE for a target above 3 or the writing port, PORT_ABSENT for one that is not
ONLINE; another target becomes ATTACHED and is torn down with cause EVICTED, before or after a grant that is due to an entry
of its own (R53, assumption 18). -/
def Obligations.Evict : Prop :=
  ∀ (s : State) (p : PortId) (value : List Byte), s.settle.takesHeldWrite p .evict value →
    (3 < bytesAt value 0 1 → exec (.evict p) s = .next (s.settle.answer p (.refused .badValue))) ∧
    ∀ t : PortId, bytesAt value 0 1 = t.val → exec (.evict p) s = .next
      (if t = p then s.settle.answer p (.refused .badValue)
      else if s.online t = false then s.settle.answer p (.refused .portAbsent)
      else (((s.grantsBefore (Grantee.ownedBy t)).modifyPort t (fun port =>
        { port with state := .attached })).teardown t .evicted).answer p (.done none))

/-- R147, R149: ACQUIRE grants a free claim with a full lease, renews that of the holder, and is refused CLAIMED while
another port holds it; RELEASE by the holder frees the claim and tells every other ONLINE port, and is refused NOT_HOLDER
from any other port. -/
def Obligations.AcquireAndRelease : Prop :=
  ∀ (s : State) (p : PortId) (value : List Byte),
    (s.takesWrite p .acquire value →
      (s.claim.held = none ∨ s.holds p = true → exec (.acquire p) s = .next
        ({ s with
          claim :=
            { s.claim with held := some { holder := p, remaining := s.claim.interval * 1000, due := false } } }.answer p
          (.done none))) ∧
      ∀ h, s.claim.held = some h → h.holder ≠ p → exec (.acquire p) s = .next (s.answer p (.refused .claimed))) ∧
    (s.takesWrite p .release value →
      (s.holds p = true → exec (.release p) s = .next
        (({ s with claim := { s.claim with held := none } }.broadcastExcept p (.claimFreed p)).answer p
          (.done none))) ∧
      (s.holds p = false → exec (.release p) s = .next (s.answer p (.refused .notHolder))))

/-- R148: a RENEW of the holder sets the lease remaining to the lease interval in force, in microseconds, and nothing
else; from any other port it is refused NOT_HOLDER and changes nothing. -/
def Obligations.Renew : Prop :=
  ∀ (s : State) (p : PortId) (value : List Byte), s.takesWrite p .renew value →
    (s.holds p = true → exec (.renew p) s = .next
      ({ s with
        claim :=
          { s.claim with held := some { holder := p, remaining := s.claim.interval * 1000, due := false } } }.answer p
        (.done none))) ∧
    (s.holds p = false → exec (.renew p) s = .next (s.answer p (.refused .notHolder)))

/-- R14, R15, R16: ENABLE of a window by the holder: WRONG_STATE unless DISABLED, BAD_VALUE unless the four staged fields
are present and form a valid window, OVERLAP if its bridge range meets that of a window that is not DISABLED; else the
window takes on the staged fields, ENABLED, and every ONLINE port is told. -/
def Obligations.Enable : Prop :=
  ∀ (s : State) (p : PortId) (value : List Byte), s.takesHeldWrite p .enable value →
    (15 < bytesAt value 0 1 → exec (.enable p) s = .next (s.answer p (.refused .badValue))) ∧
    ∀ w : WindowId, bytesAt value 0 1 = w.val →
      let st := (s.port p).staging
      ((s.window w).state ≠ .disabled → exec (.enable p) s = .next (s.answer p (.refused .wrongState))) ∧
      ((s.window w).state = .disabled → (st.base = none ∨ st.size = none ∨ st.dest = none ∨ st.rights = none) →
        exec (.enable p) s = .next (s.answer p (.refused .badValue))) ∧
      ∀ base size resource dest rights, (s.window w).state = .disabled →
        st = { base := some base, size := some size, dest := some (resource, dest), rights := some rights } →
        (¬(base % size = 0 ∧ dest % size = 0 ∧ dest + size ≤ resource.size) →
          exec (.enable p) s = .next (s.answer p (.refused .badValue))) ∧
        (base % size = 0 → dest % size = 0 → dest + size ≤ resource.size →
          let meets := ∃ v : WindowId, (s.window v).state ≠ .disabled ∧
            base < (s.window v).bridgeBase + (s.window v).size ∧ (s.window v).bridgeBase < base + size
          (meets → exec (.enable p) s = .next (s.answer p (.refused .overlap))) ∧
          (¬meets → exec (.enable p) s = .next
            (((s.modifyWindow w (fun old =>
              { state := .enabled, bridgeBase := base, size := size, resource := resource, destBase := dest
                rights := rights, refCount := old.refCount })).broadcast (.windowChanged w .enabled)).answer p
              (.done none))))

/-- R17: DISABLE of a window by the holder: WRONG_STATE unless ENABLED; else DISABLED with no reference, DRAINING with
one, announced to every ONLINE port; nothing else changes. -/
def Obligations.Disable : Prop :=
  ∀ (s : State) (p : PortId) (value : List Byte) (w : WindowId), s.takesHeldWrite p .disable value →
    bytesAt value 0 1 = w.val →
    ((s.window w).state ≠ .enabled → exec (.disable p) s = .next (s.answer p (.refused .wrongState))) ∧
    ((s.window w).state = .enabled →
      let st : WindowState := if (s.window w).refCount = 0 then .disabled else .draining
      exec (.disable p) s = .next
        (((s.modifyWindow w (fun win => { win with state := st })).broadcast (.windowChanged w st)).answer p
          (.done none)))

/-- R20, R21, R51, R24, R53: PURGE of a window by the holder: WRONG_STATE when DISABLED; an ENABLED window with no reference
becomes DISABLED as by DISABLE; else the window's WAITING and READY entries are freed with DISCARD (PURGED) to their owners in
allocation order, its FETCHING entries are ORPHANED, and the window is DRAINING, or DISABLED when no reference is left,
with the records in the order of R21. A grant that is due to an entry of the window comes before the PURGE or after, so that a
new entry at an idle resource is ORPHANED, or found WAITING and freed (R24, R53; `s` is the state then, assumption 18). -/
def Obligations.Purge : Prop :=
  ∀ (before : State) (p : PortId) (value : List Byte) (w : WindowId), before.tagsDistinct →
    before.settle.takesHeldWrite p .purge value → bytesAt value 0 1 = w.val →
    let s := before.grantsBefore (Grantee.ofWindow w)
    let win := s.window w
    let held : Entry → Bool := fun e => e.window == w && match e.phase with
      | .waiting _ => true
      | .ready _ _ => true
      | _ => false
    let freed := s.drt.filter held
    let record : Entry → Record := fun e => .discard e.tag e.addr e.count .purged
      (match e.kind, e.phase with
        | .read, _ => none
        | .swap _ _, .waiting _ => some false
        | .swap _ _, _ => some true)
    let draining := { win with state := .draining }
    (win.state = .disabled → exec (.purge p) before = .next (s.answer p (.refused .wrongState))) ∧
    (win.state = .enabled → win.refCount = 0 → exec (.purge p) before = .next
      (((s.modifyWindow w (fun win => { win with state := .disabled })).broadcast
        (.windowChanged w .disabled)).answer p (.done none))) ∧
    (win.state ≠ .disabled → (win.state = .enabled → win.refCount ≠ 0) → ∃ t,
      exec (.purge p) before = .next (t.answer p (.done none)) ∧
      t = { s with drt := t.drt, windows := t.windows, ports := t.ports } ∧
      t.drt = (s.drt.filter (fun e => !held e)).map (fun e =>
        if e.window = w then { e with phase := .orphaned } else e) ∧
      (∀ v, t.window v = if v = w then draining.released freed.length else s.window v) ∧
      s.announces t (fun q =>
        (if win.state = .enabled then [.windowChanged w .draining] else []) ++
          (freed.filter (fun e => e.owner == q)).map record ++
          (if win.refCount ≤ freed.length then [.windowChanged w .disabled] else [])))

/-- R22: RIGHTS of a window by the holder: WRONG_STATE when DISABLED, BAD_VALUE without a staged rights list; else the list
is replaced, the state stays, and every ONLINE port is told. An index above 15 is refused BAD_VALUE in every commit
(R14). -/
def Obligations.RightsCommit : Prop :=
  (∀ (s : State) (p : PortId) (value : List Byte), s.takesHeldWrite p .rights value →
    ∀ w : WindowId, bytesAt value 0 1 = w.val →
      ((s.window w).state = .disabled → exec (.rights p) s = .next (s.answer p (.refused .wrongState))) ∧
      ((s.window w).state ≠ .disabled → (s.port p).staging.rights = none →
        exec (.rights p) s = .next (s.answer p (.refused .badValue))) ∧
      ∀ list, (s.window w).state ≠ .disabled → (s.port p).staging.rights = some list →
        exec (.rights p) s = .next
          (((s.modifyWindow w (fun win => { win with rights := list })).broadcast
            (.windowChanged w (s.window w).state)).answer p (.done none))) ∧
  ∀ (s : State) (p : PortId) (value : List Byte) (row : TakeRow), row ∈ [TakeRow.disable, .purge, .rights] →
    s.takesHeldWrite p row value → 15 < bytesAt value 0 1 →
    exec (row.command p) s = .next (s.answer p (.refused .badValue))

/-- R11, R57, R181: the writes to a port's own staging record and selectors: the field becomes present with the value
written when that is one of its values, and is left as it was with BAD_VALUE otherwise; no other field and no other port
changes. -/
def Obligations.StagingAndSelectors : Prop :=
  ∀ (s : State) (p : PortId) (value : List Byte),
    let n := bytesAt value 0 7
    let bad := s.answer p (.refused .badValue)
    let staged := fun put : Staging → Staging =>
      (s.modifyPort p (fun port => { port with staging := put port.staging })).answer p (.done none)
    (s.takesWrite p .wstgHost value → exec (.wstgHost p) s = .next
      (if n % 4096 = 0 ∧ n ≤ 2 ^ 36 - 4096 then staged (fun st => { st with base := some n }) else bad)) ∧
    (s.takesWrite p .wstgSize value →
      (∀ k, k ≤ 20 → n = 2 ^ (12 + k) →
        exec (.wstgSize p) s = .next (staged (fun st => { st with size := some n }))) ∧
      ((∀ k, k ≤ 20 → n ≠ 2 ^ (12 + k)) → exec (.wstgSize p) s = .next bad)) ∧
    (s.takesWrite p .wstgDest value →
      let base := bytesAt value 0 6
      exec (.wstgDest p) s = .next
        (if bytesAt value 6 1 = 0 ∧ base % 4096 = 0 ∧ base ≤ 2 ^ 19 - 4096 then
          staged (fun st => { st with dest := some (.ls, base) })
        else if bytesAt value 6 1 = 1 ∧ base % 4096 = 0 ∧ base ≤ 2 ^ 32 - 4096 then
          staged (fun st => { st with dest := some (.xb, base) })
        else bad)) ∧
    (s.takesWrite p .wstgRights value → ∃ list : RightsList,
      exec (.wstgRights p) s = .next (staged (fun st => { st with rights := some list })) ∧
        ∀ k : PortId, list[k].code = bytesAt value 0 1 / 4 ^ k.val % 4) ∧
    (s.takesWrite p .wviewSel value →
      (∀ w : WindowId, bytesAt value 0 1 = w.val → exec (.wviewSel p) s = .next
        ((s.modifyPort p (fun port => { port with wviewSel := w })).answer p (.done none))) ∧
      (15 < bytesAt value 0 1 → exec (.wviewSel p) s = .next bad)) ∧
    (s.takesWrite p .tviewSel value →
      (∀ t : Tag, bytesAt value 0 1 = t.val → exec (.tviewSel p) s = .next
        ((s.modifyPort p (fun port => { port with tviewSel := t })).answer p (.done none))) ∧
      (13 < bytesAt value 0 1 → exec (.tviewSel p) s = .next bad))

/-- R43, R121, R153: from the holder, a value within its range becomes the setting, and any other is refused BAD_VALUE; the
running timers keep what remains of them. -/
def Obligations.Settings : Prop :=
  ∀ (s : State) (p : PortId) (value : List Byte),
    let n := bytesAt value 0 2
    let bad := s.answer p (.refused .badValue)
    (s.takesHeldWrite p .discardIv value → exec (.discardIv p) s = .next
      (if 1 ≤ n ∧ n ≤ 4095 then { s with discardInterval := n }.answer p (.done none) else bad)) ∧
    (s.takesHeldWrite p .leaseIv value → exec (.leaseIv p) s = .next
      (if 1 ≤ n ∧ n ≤ 1000 then { s with claim := { s.claim with interval := n } }.answer p (.done none) else bad)) ∧
    (s.takesHeldWrite p .xbTimeout value → exec (.xbTimeout p) s = .next
      (if 1 ≤ n ∧ n ≤ 1023 then { s with xbm := { s.xbm with timeout := n } }.answer p (.done none) else bad))

/-- R166: a NOTICE from a port that is not ONLINE is refused NOT_JOINED. From an ONLINE port: BAD_VALUE for a target above 3,
PORT_ABSENT for one that is not ONLINE; else the record with the source and the payload is offered to the target's queue,
and the answer is DONE. -/
def Obligations.Notice : Prop :=
  (∀ (s : State) (p : PortId) (f : Frame), s.takes p .notice f → s.online p = false →
    exec (.notice p) s = .next (s.answer p (.refused .notJoined))) ∧
  ∀ (s : State) (p : PortId) (value : List Byte), s.takesWrite p .notice value →
    (3 < bytesAt value 0 1 → exec (.notice p) s = .next (s.answer p (.refused .badValue))) ∧
    ∀ t : PortId, bytesAt value 0 1 = t.val → exec (.notice p) s = .next
      (if s.online t = false then s.answer p (.refused .portAbsent)
      else (s.modifyPort t (fun port =>
        { port with
          queue := appendRecord port.queue (.notice p (BitVec.ofNat 32 (bytesAt value 4 4))) })).answer p
        (.done none))

/-- R163: a CTL_READ of EVPOP with length 16 is answered DATA with the head record of the port's own queue, which is
removed; with an empty queue DATA carries zeros and nothing is removed. Another length is refused WRONG_ACCESS (R179). -/
def Obligations.EvPop : Prop :=
  ∀ (s : State) (p : PortId) (f : Frame), s.takes p .evpop f →
    (f.count = 16 → (s.port p).queue = [] →
      exec (.evpop p) s = .next (s.answer p (.data (List.replicate 16 0) none))) ∧
    (∀ r rest, f.count = 16 → (s.port p).queue = r :: rest → exec (.evpop p) s = .next
      ((s.modifyPort p (fun port => { port with queue := rest })).answer p (.data r.bytes none))) ∧
    (f.count ≠ 16 → exec (.evpop p) s = .next (s.answer p (.refused .wrongAccess)))

/-- R169: an ATTNEN write from a port that is not ONLINE is refused NOT_JOINED. From an ONLINE port it is refused BAD_VALUE
when either list names a value that is no record kind; else the set becomes the old set with the set-list added, then the
clear-list removed, and OVERFLOW put back in, and nothing else changes. -/
def Obligations.Attnen : Prop :=
  (∀ (s : State) (p : PortId) (f : Frame), s.takes p .attnen f → s.online p = false →
    exec (.attnen p) s = .next (s.answer p (.refused .notJoined))) ∧
  ∀ (s : State) (p : PortId) (value : List Byte), s.takesWrite p .attnen value →
    let set := BitVec.ofNat 16 (bytesAt value 0 2)
    let clear := BitVec.ofNat 16 (bytesAt value 2 2)
    let kinds := fun l : BitVec 16 => ∀ i, l.getLsbD i = true → 1 ≤ i ∧ i ≤ 10
    (¬(kinds set ∧ kinds clear) → exec (.attnen p) s = .next (s.answer p (.refused .badValue))) ∧
    (kinds set → kinds clear → ∃ new : BitVec 16,
      exec (.attnen p) s = .next
        ((s.modifyPort p (fun port => { port with attnEnable := new })).answer p (.done none)) ∧
      ∀ i : Nat, new.getLsbD i =
        (i == 10 || ((s.port p).attnEnable.getLsbD i || set.getLsbD i) && !clear.getLsbD i))

/-- R129, R134, R179: control decode of a frame that has no row of its own (assumption 3): MALFORMED; a read of a register
of the map with its width, answered DATA with what the register holds; UNKNOWN_OFFSET and WRONG_ACCESS; and for writes
the checks of R133, R152 and R179, with BAD_VALUE for a command or action that is not named. And what each register holds,
field by field (R12, R25, R57, R82, R180 to R183). -/
def Obligations.OtherControlRequests : Prop :=
  (∀ (s : State) (p : PortId), s.RegistersShown p) ∧
  ∀ (s : State) (p : PortId) (f : Frame), s.takes p .ctlWrite f →
    (f.wellFormed = false → exec (.ctlWrite p) s = .next (s.answer p (.refused .malformed))) ∧
    (f.wellFormed = true → f.kind = some .ctlRead →
      (Reg.ofOffset f.offset = none → exec (.ctlWrite p) s = .next (s.answer p (.refused .unknownOffset))) ∧
      ∀ r, Reg.ofOffset f.offset = some r → exec (.ctlWrite p) s = .next
        (if r.readable = true ∧ f.count = r.width then s.answer p (.data (s.registerBytes p r) none)
        else s.answer p (.refused .wrongAccess))) ∧
    (f.wellFormed = true → f.kind ≠ some .ctlRead →
      (Reg.ofOffset f.offset = none → exec (.ctlWrite p) s = .next
        (s.answer p (.refused (if s.online p = true then .unknownOffset else .notJoined)))) ∧
      ∀ r, Reg.ofOffset f.offset = some r → exec (.ctlWrite p) s = .next (s.answer p (.refused
        (if s.online p = false ∧ r ≠ .pjoin then .notJoined
        else if r.claimRequired = true ∧ s.holds p = false then .notHolder
        else if r.writable = false ∨ f.count ≠ r.width then .wrongAccess
        else .badValue))))

/-! ## The local store and the expansion bus -/

/-- R97, R104, R105, R70: the completion of an access answers the immediate read in hand with the bytes it read, or drops
the data after a link down; or carries out the write of the head and its drain completion; or the fetch of a READ; and
leaves the store FREE, which is granted again among all the requests then standing (R100, R102).
With the store FREE no access completes (assumption 2). -/
def Obligations.StoreCompletions : Prop :=
  (∀ s : State, s.atRest → s.store = none → exec .lsAccessCompletion s = .next s) ∧
  (∀ (s : State) (p : PortId) (r : ReadInHand), s.atRest → s.store = some (.port p) → (s.port p).dropped = false →
    (s.port p).inHand = some (.read r) → r.offset + r.count ≤ 524288 → exec .lsAccessCompletion s = .next
      { s.answer p (.data ((List.range' r.offset r.count).map s.mem.read) none) with store := none }.grantStore) ∧
  (∀ (s : State) (p : PortId), s.atRest → s.store = some (.port p) → (s.port p).dropped = true →
    exec .lsAccessCompletion s = .next
      { s.modifyPort p (fun port => { port with dropped := false }) with store := none }.grantStore) ∧
  (∀ (s : State) (h : PostedWrite) (rest : List PostedWrite), s.atRest → s.storeCanonical → s.store = some .drain →
    s.pwq = h :: rest → h.dest + h.data.length ≤ 524288 → ∃ mem, exec .lsAccessCompletion s = .next
      { { s with mem := mem }.completeDrain none with store := none }.grantStore ∧
      ∀ a, mem.read a = if h.dest ≤ a then (h.data[a - h.dest]?).getD (s.mem.read a) else s.mem.read a) ∧
  ∀ (s : State) (e : Entry), s.atRest → s.store = some .fetch → s.drt.find? (Entry.occupies .ls) = some e → e.kind = .read →
    e.dest + e.count ≤ 524288 → exec .lsAccessCompletion s = .next
      { s.completeFetch .ls (.ok ((List.range' e.dest e.count).map s.mem.read) none) with store := none }.grantStore

/-- R87, R88: the completion of a compare-and-swap hands back the 8 bytes as they were and the outcome; the word takes the
swap value exactly when all 8 bytes equal the compare value, and no other byte of the store changes. The store is granted
again among all the requests then standing (R100, R102). -/
def Obligations.CompareAndSwap : Prop :=
  ∀ (s : State) (e : Entry) (compareValue swapValue : List Byte), s.atRest → s.storeCanonical → s.store = some .fetch →
    s.drt.find? (Entry.occupies .ls) = some e → e.kind = .swap compareValue swapValue → swapValue.length = 8 →
    e.dest + 8 ≤ 524288 →
    let old := (List.range' e.dest 8).map s.mem.read
    ∃ (mem : Memory) (outcome : SwapOutcome),
      (outcome = .exchanged ↔ old = compareValue) ∧
      exec .lsAccessCompletion s = .next
        { { s with mem := mem }.completeFetch .ls (.ok old (some outcome)) with store := none }.grantStore ∧
      ∀ a, mem.read a =
        if outcome = .exchanged ∧ e.dest ≤ a then (swapValue[a - e.dest]?).getD (s.mem.read a) else s.mem.read a

/-- R71, R72, R74 to R76, R39, R40, R49: what a drain completion does to the queue, the fences, the window and the fault's
queue, and what a fetch completion does to the entry that is FETCHING or ORPHANED on the resource. -/
def Obligations.CompletionsReachTheirTables : Prop :=
  (∀ (s : State) (h : PostedWrite) (rest : List PostedWrite) (fault : Option FaultCause), s.pwq = h :: rest →
    let win := s.window h.window
    let ends := win.state = .draining ∧ win.refCount ≤ 1
    let t := s.completeDrain fault
    let report : PortId → List Record := fun q => match fault with
      | none => []
      | some cause =>
        if s.online h.source = true then
          if q = h.source then [.writeFault h.sequence h.addr h.data.length h.window cause] else []
        else match s.claim.held with
          | some holding =>
            if q = holding.holder then
              [.orphanFault h.sequence h.addr h.data.length h.window cause h.source] else []
          | none => []
    t = { s with pwq := rest, drt := t.drt, windows := t.windows, ports := t.ports } ∧
    t.drt = s.drt.map (fun e => { e with phase := match e.phase with
      | .waiting n => .waiting (n - 1)
      | .fetching (some n) => .fetching (some (n - 1))
      | phase => phase }) ∧
    (∀ w, t.window w = if w = h.window then win.released 1 else s.window w) ∧
    s.announces t (fun q => report q ++ if ends then [.windowChanged h.window .disabled] else [])) ∧
  ∀ (s : State) (r : Resource) (e : Entry) (result : FetchResult), s.tagsDistinct → e ∈ s.drt →
    s.drt.find? (Entry.occupies r) = some e →
    let becomes := fun phase =>
      { s with drt := s.drt.map (fun x => if x = e then { e with phase := phase } else x) }
    match e.phase with
    | .fetching none => s.completeFetch r result = becomes (.ready result (s.discardInterval * 16))
    | .fetching (some n) => s.completeFetch r result = becomes (.waiting n)
    | _ => s.completeFetch r result = s.freeEntry e

/-- R107, R110, R111: the taking of the address begins the DATA phase, and sends the first beat of a WRITE; each write beat
taken raises beats done and sends the next beat, and the last one ends the DATA phase; each read beat adds the bytes of
its positions to read data, in address order. -/
def Obligations.Beats : Prop :=
  ∀ (s : State) (t : Transaction), s.atRest → s.xbm.bus = .active t →
    let now := fun t' : Transaction => { s with xbm := { s.xbm with bus := .active t' } }
    let beat := fun k : Nat => BusItem.beat t.number ((t.address / 8 + k) * 8) (t.beatBytes s.drainData k)
    let last := (t.address + t.count - 1) / 8 - t.address / 8
    (t.phase = .address → t.stream = .fetch →
      exec (.addressTaken t.number) s = .next (now { t with phase := .data })) ∧
    (t.phase = .address → t.stream = .drain → exec (.addressTaken t.number) s = .next
      { now { t with phase := .data } with busItems := s.busItems ++ [beat t.beatsDone] }) ∧
    (t.phase = .data → t.stream = .drain → exec (.writeBeatTaken t.number) s = .next
      (if t.beatsDone < last then
        { now { t with beatsDone := t.beatsDone + 1 } with busItems := s.busItems ++ [beat (t.beatsDone + 1)] }
      else now { t with beatsDone := t.beatsDone + 1, phase := .ending })) ∧
    (∀ data : List Byte, data.length = 8 → t.phase = .data → t.stream = .fetch →
      exec (.readBeat t.number data) s = .next (now
        { t with
          beatsDone := t.beatsDone + 1
          phase := if t.beatsDone < last then .data else .ending
          readData := t.readData ++ (List.range 8).filterMap (fun j =>
            let a := (t.address / 8 + t.beatsDone) * 8 + j
            if t.address ≤ a ∧ a < t.address + t.count then data[j]? else none) })) ∧
    ∀ (k j : Nat) (b : Byte), (j, b) ∈ t.beatBytes s.drainData k ↔
      j < 8 ∧ t.address ≤ (t.address / 8 + k) * 8 + j ∧ (t.address / 8 + k) * 8 + j < t.address + t.count ∧
        s.drainData[(t.address / 8 + k) * 8 + j - t.address]? = some b

/-- R112, R113, R119, R120: an ending of the current transaction hands its completion to the stream, OK only after every
beat, and leaves the bus IDLE, which is granted again among all the requests then standing (R117, R118); a timeout that has
reached 0 does so with TIMEOUT, after the abort indication. One that has not reached 0 does not expire (assumption 2). -/
def Obligations.TransactionEnds : Prop :=
  let ended : State → Transaction → Option FaultCause → FetchResult → State := fun s t fault result =>
    let u := match t.stream with
      | .drain => s.completeDrain fault
      | .fetch => s.completeFetch .xb result
    { u with xbm := { u.xbm with bus := .idle } }.grantBus
  (∀ (s : State) (t : Transaction) (how : TargetEnding), s.atRest → s.xbm.bus = .active t →
    exec (.ending t.number how) s = .next
      (if how = .ok ∧ t.phase = .ending then ended s t none (.ok t.readData none)
      else ended s t (some .error) .targetError)) ∧
  (∀ (s : State) (t : Transaction), s.atRest → s.xbm.bus = .active t → t.remaining = 0 →
    exec .expansionTimeout s = .next
      (ended { s with busItems := s.busItems ++ [.abort] } t (some .timeout) .targetTimeout)) ∧
  ∀ s : State, s.atRest → (∀ t, s.xbm.bus = .active t → t.remaining ≠ 0) → exec .expansionTimeout s = .next s

/-- R115, R111: an item from a target is ignored when no transaction is in progress, when it carries another number, and
when the transaction does not expect it in its phase and direction. -/
def Obligations.LateAnswers : Prop :=
  (∀ (s : State) (n : TransactionNumber), s.atRest → (∀ t, s.xbm.bus = .active t → t.number ≠ n) →
    exec (.addressTaken n) s = .next s ∧ exec (.writeBeatTaken n) s = .next s ∧
    (∀ data, exec (.readBeat n data) s = .next s) ∧ ∀ how, exec (.ending n how) s = .next s) ∧
  ∀ (s : State) (t : Transaction), s.atRest → s.xbm.bus = .active t →
    (t.phase ≠ .address → exec (.addressTaken t.number) s = .next s) ∧
    ((t.stream = .fetch ∨ t.phase ≠ .data) → exec (.writeBeatTaken t.number) s = .next s) ∧
    ((t.stream = .drain ∨ t.phase ≠ .data) → ∀ data, exec (.readBeat t.number data) s = .next s)

/-- R100, R117, R109, R70, R37: the grants. The store goes to the first requesting position after the last-granted one; an
IDLE bus to the stream that requests, of two to the one not granted last; nothing is left idle; and what a grant starts is the
head of the queue or the oldest eligible entry; without a request, or while busy, no grant is made. R24, R53, R102, R105, R118:
before an event that takes away what one grant that is due would go to, that grant is made or not, which is open, and the
other grant is made as ever; an event that takes nothing away comes after both. That this is how the grants stand between two
commands is the model's form (assumptions 11 and 18). -/
def Obligations.Grants : Prop :=
  (∀ s : State, s.store = none → s.inReset = false → ∀ pos,
    (cycleAfter s.lastPosition).find? s.positionRequests = some pos →
    let granted := { s with store := some pos, lastPosition := pos }
    s.grantStore = match pos with
      | .port _ => granted
      | .drain => { granted with pwq := match s.pwq with
        | h :: rest => { h with inFlight := true } :: rest
        | [] => [] }
      | .fetch => { granted with drt := match s.drt.find? (fun e => e.resource == .ls && e.phase == .waiting 0) with
        | some e => s.drt.map (fun x => if x.tag = e.tag then { x with phase := .fetching none } else x)
        | none => s.drt }) ∧
  (∀ s : State, (s.store ≠ none ∨ s.inReset = true ∨ ∀ pos, s.positionRequests pos = false) → s.grantStore = s) ∧
  (∀ s : State, s.xbm.bus ≠ .idle → s.grantBus = s) ∧
  (∀ s : State, s.xbm.bus = .idle → s.drainRequests .xb = false → s.fetchRequests .xb = false → s.grantBus = s) ∧
  (∀ s : State, s.xbm.bus = .idle → s.drainRequests .xb = true →
    (s.fetchRequests .xb = true → s.xbm.lastStream = .fetch) → ∀ h rest, s.pwq = h :: rest →
    s.grantBus = { s with
      pwq := { h with inFlight := true } :: rest
      xbm :=
        { bus := .active
            { stream := .drain, address := h.dest, count := h.data.length, number := s.xbm.lastNumber + 1
              phase := .address, beatsDone := 0, readData := [], remaining := s.xbm.timeout }
          lastNumber := s.xbm.lastNumber + 1, timeout := s.xbm.timeout, lastStream := .drain }
      busItems := s.busItems ++ [.address .drain h.dest h.data.length (s.xbm.lastNumber + 1)] }) ∧
  (∀ (s : State) (e : Entry), s.xbm.bus = .idle → s.fetchRequests .xb = true →
    (s.drainRequests .xb = true → s.xbm.lastStream = .drain) →
    s.drt.find? (fun x => x.resource == .xb && x.phase == .waiting 0) = some e → s.grantBus = { s with
      drt := s.drt.map (fun x => if x.tag = e.tag then { x with phase := .fetching none } else x)
      xbm :=
        { bus := .active
            { stream := .fetch, address := e.dest, count := e.count, number := s.xbm.lastNumber + 1
              phase := .address, beatsDone := 0, readData := [], remaining := s.xbm.timeout }
          lastNumber := s.xbm.lastNumber + 1, timeout := s.xbm.timeout, lastStream := .fetch }
      busItems := s.busItems ++ [.address .fetch e.dest e.count (s.xbm.lastNumber + 1)] }) ∧
  (∀ s : State, s.settle.workConserving) ∧
  (∀ (s : State) (pos : Position), s.store = none → s.inReset = false →
    (cycleAfter s.lastPosition).find? s.positionRequests = some pos → match pos with
      | .port p => s.storeGrantee = some (.read p)
      | .drain => s.storeGrantee = some .write
      | .fetch => ∃ e, s.drt.find? (fun e => e.resource == .ls && e.phase == .waiting 0) = some e ∧
        s.storeGrantee = some (.entry e)) ∧
  (∀ s : State, (s.storeGrantee = none → s.grantStore = s) ∧ (s.busGrantee = none → s.grantBus = s) ∧
    (∀ p, s.busGrantee ≠ some (.read p)) ∧ (s.busGrantee = some .write → s.drainRequests .xb = true) ∧
    ∀ e, s.busGrantee = some (.entry e) →
      s.drt.find? (fun e => e.resource == .xb && e.phase == .waiting 0) = some e ∧ s.fetchRequests .xb = true) ∧
  ∀ (s : State) (lost : Grantee → Bool) (first : Nat → Bool), s.tagsDistinct →
    let storeLost := s.storeGrantee.any lost
    let busLost := s.busGrantee.any lost
    ∃ store bus : Bool,
      (storeLost = false → store = true) ∧ (busLost = false → bus = true) ∧
      ((∀ n, first n = true) → store = true ∧ bus = true) ∧
      ((∀ n, first n = false) → (storeLost = true → store = false) ∧ (busLost = true → bus = false)) ∧
      let u := if store = true then s.grantStore else s
      let v := if bus = true then u.grantBus else u
      s.grantsBefore lost first = { v with choices := s.choices + storeLost.toNat + busLost.toNat }

/-- R101: a position that requests at six grants in a row is granted by the sixth, whatever the others do; and while every
position requests, each grant goes to the next one in the cycle. -/
def Obligations.CycleServesEveryPosition : Prop :=
  (∀ (requests : Nat → Position → Bool) (last : Nat → Position) (pos : Position),
    (∀ k, k < 6 → requests k pos = true) →
    (∀ k, k < 6 → (cycleAfter (last k)).find? (requests k) = some (last (k + 1))) →
    ∃ k, k < 6 ∧ last (k + 1) = pos) ∧
  ∀ (requests : Position → Bool) (last : Position), (∀ pos, requests pos = true) →
    (cycleAfter last).find? requests = positionCycle[(last.place + 1) % 6]?

/-! ## Shared operations -/

/-- R7, R30: lookup gives the ENABLED window whose range holds the address, and none when no ENABLED window does; a match is
an entry of the port, not ORPHANED, with every part of the key equal, and none when there is no such entry. -/
def Obligations.LookupAndMatching : Prop :=
  (∀ (s : State) (addr : Nat) (w : WindowId), s.windowsDisjoint →
    (s.lookup addr = some w ↔ (s.window w).state = .enabled ∧ (s.window w).bridgeBase ≤ addr ∧
      addr < (s.window w).bridgeBase + (s.window w).size)) ∧
  (∀ (s : State) (p : PortId) (kind : EntryKind) (addr count : Nat) (e : Entry), s.keysDistinct →
    (s.matching p kind addr count = some e ↔ e ∈ s.drt ∧ e.phase ≠ .orphaned ∧ e.owner = p ∧ e.kind = kind ∧
      e.addr = addr ∧ e.count = count))

/-- R94, R96: of contents in canonical form, a byte written is read back and every other byte stands; so for a range; and
contents that read the same are the same data. -/
def Obligations.MemoryReadsWhatWasWritten : Prop :=
  (∀ (m : Memory) (a b : Nat) (v : Byte), m.wf = true → (m.write a v).read b = if b = a then v else m.read b) ∧
  (∀ (m : Memory) (a : Nat) (data : List Byte), m.wf = true → a + data.length ≤ Config.storeSize →
    (m.writeBytes a data).readRange a data.length = data ∧
    ∀ b, (b < a ∨ a + data.length ≤ b) → (m.writeBytes a data).read b = m.read b) ∧
  ∀ m m' : Memory, m.wf = true → m'.wf = true → (∀ a, m.read a = m'.read a) → m = m'

/-- R161: a queue of fewer than 15 records, none of them OVERFLOW, appends an offered record at its tail; one of 15
appends OVERFLOW with count 1 instead. -/
def Obligations.QueueAppends : Prop :=
  ∀ (queue : List Record) (r : Record), (∀ x ∈ queue, ∀ n, x ≠ .overflow n) →
    (queue.length < 15 → appendRecord queue r = queue ++ [r] ∧
      (appendRecord queue r).length = queue.length + 1) ∧
    (queue.length = 15 → appendRecord queue r = queue ++ [.overflow 1])

/-- R160, R162, R170: a record is offered to an ONLINE port alone; an OVERFLOW record counts it and stops at 255; and the
attention line is asserted exactly when the port is ONLINE and its queue holds a record of an enabled kind. -/
def Obligations.OfferAndAttention : Prop :=
  (∀ (port : Port) (r : Record), port.offer r =
    if port.state = .online then { port with queue := appendRecord port.queue r } else port) ∧
  (∀ (ahead : List Record) (n : Nat) (r : Record), appendRecord (ahead ++ [.overflow n]) r =
    ahead ++ [.overflow (if n < 255 then n + 1 else n)]) ∧
  (∀ (s : State) (r : Record), (∀ p, (s.broadcast r).port p = (s.port p).offer r) ∧
    ∀ q p, (s.broadcastExcept q r).port p = if p = q then s.port p else (s.port p).offer r) ∧
  ∀ port : Port, port.attention = true ↔
    port.state = .online ∧ ∃ r ∈ port.queue, port.attnEnable.getLsbD r.code = true

/-! ## The whole machine -/

/-- R130, R132, R134, R143: whatever frame a port takes, one response is decided for it, or an immediate read stays in
hand; the frame keeps its place, and nothing is sent or decided at another port. A response leaves at once when it is
decided: before the next command, whatever that is and at whatever port, does anything else. It is otherwise with an event
that may be taken before the leaving: a link down of its own port, one of a credit overrun among them, and the start of
device reset; where one of these is the very next command, the response has left by then or is discarded. And no command
makes any other response leave. That the leaving stands between two commands is the model's form of the manual's 'at once'
(assumption 5). -/
def Obligations.EveryFrameTakenIsAnsweredOnce : Prop :=
  let gone : State → (PortId → Prop) → State → Prop := fun s leaves u => u = { s with ports := u.ports } ∧
    ∀ p, (leaves p → ∀ r, (s.port p).inHand = some (.decided r) → u.port p =
        { s.port p with
          buffer := (s.port p).buffer.tail, inHand := none, sent := (s.port p).sent ++ [.response r] }) ∧
      ((leaves p → ∀ r, (s.port p).inHand ≠ some (.decided r)) → u.port p = s.port p)
  (∀ (s t : State) (p : PortId) (f : Frame) (row : TakeRow), s.settle.takes p row f → exec (row.command p) s = .next t →
    ((∃ r : Response, (t.port p).inHand = some (.decided r)) ∨
      (row = .read ∧ ∃ r : ReadInHand, (t.port p).inHand = some (.read r))) ∧
    (t.port p).sent = (s.port p).sent ∧ (t.port p).buffer = (s.port p).buffer ∧
    ∀ q, q ≠ p → (t.port q).sent = (s.port q).sent ∧ (t.port q).buffer = (s.port q).buffer ∧
      (t.port q).inHand = (s.port q).inHand) ∧
  (∀ (c : Instr) (s u : State), gone s (fun _ => True) u → c ≠ .powerOn → (c = .resetInputAsserted → s.inReset = true) →
    (∀ p cause, c = .linkDown p cause → (s.port p).state = .offline) →
    (∀ p f, c = .frameArrival p f → (s.port p).state = .offline ∨ (s.port p).buffer.length < 4) → exec c s = exec c u) ∧
  (∀ (c : Instr) (s u : State) (p : PortId), gone s (fun q => q ≠ p) u →
    ((∃ cause, c = .linkDown p cause) ∨ ∃ f, c = .frameArrival p f) → exec c s = exec c u) ∧
  ∀ (c : Instr) (s t : State) (p : PortId), exec c s = .next t →
    ∃ left, (s.port p).mayLeave left ∧
      ((t.port p).sent = (s.port p).sent ++ left ∨ (t.port p).sent = (s.port p).sent ++ left ++ [.linkFault]) ∧
      (left = [] → ∀ r, (s.port p).inHand = some (.decided r) →
        (c = .powerOn ∨ c = .resetInputAsserted ∨ (∃ cause, c = .linkDown p cause) ∨ ∃ f, c = .frameArrival p f) ∧
        (t.port p).state = .offline ∧ (t.port p).inHand = none)

/-- R14, R152: the configuration changes at the hand of the claim holder alone: a command that changes a window's ranges,
resource or rights, or enables a window, or changes one of the three settings, is a control write taken at the port that
holds the claim, or starts device reset. -/
def Obligations.OnlyTheHolderConfigures : Prop :=
  ∀ (c : Instr) (s t : State), exec c s = .next t →
    ((∃ w, (t.window w).bridgeBase ≠ (s.window w).bridgeBase ∨ (t.window w).size ≠ (s.window w).size ∨
        (t.window w).resource ≠ (s.window w).resource ∨ (t.window w).destBase ≠ (s.window w).destBase ∨
        (t.window w).rights ≠ (s.window w).rights ∨
        (t.window w).state = .enabled ∧ (s.window w).state ≠ .enabled) ∨
      t.discardInterval ≠ s.discardInterval ∨ t.claim.interval ≠ s.claim.interval ∨
      t.xbm.timeout ≠ s.xbm.timeout) →
    c = .powerOn ∨ c = .resetInputAsserted ∨
      ∃ p, s.holds p = true ∧
        (c = .enable p ∨ c = .rights p ∨ c = .discardIv p ∨ c = .leaseIv p ∨ c = .xbTimeout p)

/-- R94, R2, R3, R11, R16: every step keeps the store canonical, the windows' fields within their limits and the ranges of
windows that are not DISABLED apart. -/
def Obligations.StoreAndWindowsStayLegal : Prop :=
  ∀ s t : State, s.storeCanonical → s.windowFieldsOk → s.windowsDisjoint → step s = .next t →
    t.storeCanonical ∧ t.windowFieldsOk ∧ t.windowsDisjoint

/-- R6, R28: every step keeps each entry once in the list and each reference count equal to the entries that name the
window. -/
def Obligations.ReferencesStayCounted : Prop :=
  ∀ s t : State, s.tagsDistinct → s.refCountsOk → step s = .next t → t.tagsDistinct ∧ t.refCountsOk

/-- R30, R34, R37, R139: every step keeps the match keys of a port's entries distinct, one fetch per resource, the limits of
the charges, and no entry but ORPHANED ones with a port that is not ONLINE. -/
def Obligations.TheTableStaysLegal : Prop :=
  ∀ s t : State, s.tagsDistinct → s.keysDistinct → s.oneFetchPerResource → s.chargesOk → s.absentPortsClear →
    step s = .next t → t.keysDistinct ∧ t.oneFetchPerResource ∧ t.chargesOk ∧ t.absentPortsClear

/-- R71, R59, R72, R67, R86: every step keeps the law of the Posted Write Queue and the fences within its occupancy. -/
def Obligations.QueueAndFencesStayLegal : Prop :=
  ∀ s t : State, s.queueOk → s.fencesOk → step s = .next t → t.queueOk ∧ t.fencesOk

/-- R130, R162, R168, R145: every step keeps the laws of the input buffers, the event queues and the attention enable sets,
and the holder of the claim ONLINE. -/
def Obligations.PortsStayLegal : Prop :=
  ∀ s t : State, s.buffersOk → s.eventQueuesOk → s.attnEnablesOk → s.holderOnline → step s = .next t →
    t.buffersOk ∧ t.eventQueuesOk ∧ t.attnEnablesOk ∧ t.holderOnline

/-- R43, R121, R153, R44, R145, R123, R144: every step keeps the settings in their ranges, the timers within their longest
setting, the lease of a claim that is held at 1 or more, and the tables and links quiet while device reset is in force. -/
def Obligations.SettingsAndResetStayLegal : Prop :=
  ∀ s t : State, s.settingsOk → s.timersBounded → s.resetQuiet → step s = .next t →
    t.settingsOk ∧ t.timersBounded ∧ t.resetQuiet

/-- The ordering guarantee of section 1 of 00_scope.md, kept by R35, R40, R64 to R67 and R72: in every step, every READ
below the freshness limit stays fenced behind each queued write that overlaps it, and so holds no result, and is given no
result, that such a write is still to overtake. -/
def Obligations.ReadsStayOrdered : Prop :=
  ∀ s t : State, s.tagsDistinct → s.readsOrdered → step s = .next t → t.tagsDistinct ∧ t.readsOrdered

/-- R3, R8, R37, R69, R70, R95, R109: every step keeps what the store and the bus are busy with present in its table, with
the destination it was started for, and every destination range inside its resource; and so no step stops. -/
def Obligations.AccessesStayInside : Prop :=
  ∀ s : State, s.tagsDistinct → s.windowFieldsOk → s.agentsOk → s.rangesOk →
    ∃ t, step s = .next t ∧ t.agentsOk ∧ t.rangesOk

/-- R100, R102, R117, R118: no arbiter stays idle while something requests it. With nothing waiting, a step makes every grant
that is due. A command that takes nothing away from a grant that is due (R53, R105) comes after the grants. A completion is
followed by the grant at its own resource in the same command. And from a state in which neither arbiter is idle with a
request, only a request that arises in the command itself, or a completion at the other resource, leaves a grant to be made
before the next. That the grants stand between two commands is the model's form of 'at once' (assumption 11). -/
def Obligations.ArbitersStayWorkConserving : Prop :=
  (∀ s : State, s.pending = [] → ∃ t, step s = .next t ∧ t.workConserving) ∧
  (∀ (c : Instr) (s : State), s.tagsDistinct → s.allSent →
    (∀ g, s.storeGrantee = some g ∨ s.busGrantee = some g → ¬s.takesAway c g) → exec c s = exec c s.settle) ∧
  (∀ (c : Instr) (s t : State), s.inReset = false → exec c s = .next t →
    (s.store ≠ none → t.store = none → ∀ pos, t.positionRequests pos = false) ∧
    (∀ b, s.xbm.bus = .active b → t.xbm.bus = .idle → t.drainRequests .xb = false ∧ t.fetchRequests .xb = false)) ∧
  ∀ (c : Instr) (s t : State), s.tagsDistinct → s.buffersOk → s.resetQuiet → s.workConserving → exec c s = .next t →
    (∀ p, c ≠ .read p ∧ c ≠ .write p ∧ c ≠ .swap p) → c ≠ .lsAccessCompletion → (∀ n how, c ≠ .ending n how) →
    c ≠ .expansionTimeout → c ≠ .timebaseUnit → t.workConserving
end

