-- ==== Sys2Proof/Laws/State.lean ====
section
/-! SUPPORT. What each update of the state leaves alone, field by field, and what it makes of one port and one
window; so that no proof need unfold a record update. -/

namespace Sys2Proof.Machine

/-! ## Fields that an update leaves alone -/

section

variable (s : State) (p : PortId) (f : Port → Port)

@[simp] theorem State.modifyPort_windows : (s.modifyPort p f).windows = s.windows := rfl
@[simp] theorem State.modifyPort_drt : (s.modifyPort p f).drt = s.drt := rfl
@[simp] theorem State.modifyPort_discardInterval : (s.modifyPort p f).discardInterval = s.discardInterval := rfl
@[simp] theorem State.modifyPort_pwq : (s.modifyPort p f).pwq = s.pwq := rfl
@[simp] theorem State.modifyPort_lastSequence : (s.modifyPort p f).lastSequence = s.lastSequence := rfl
@[simp] theorem State.modifyPort_claim : (s.modifyPort p f).claim = s.claim := rfl
@[simp] theorem State.modifyPort_mem : (s.modifyPort p f).mem = s.mem := rfl
@[simp] theorem State.modifyPort_store : (s.modifyPort p f).store = s.store := rfl
@[simp] theorem State.modifyPort_lastPosition : (s.modifyPort p f).lastPosition = s.lastPosition := rfl
@[simp] theorem State.modifyPort_xbm : (s.modifyPort p f).xbm = s.xbm := rfl
@[simp] theorem State.modifyPort_resetInput : (s.modifyPort p f).resetInput = s.resetInput := rfl
@[simp] theorem State.modifyPort_clearing : (s.modifyPort p f).clearing = s.clearing := rfl
@[simp] theorem State.modifyPort_busItems : (s.modifyPort p f).busItems = s.busItems := rfl
@[simp] theorem State.modifyPort_choices : (s.modifyPort p f).choices = s.choices := rfl
@[simp] theorem State.modifyPort_pending : (s.modifyPort p f).pending = s.pending := rfl

end

section

variable (s : State) (f : PortId → Port → Port)

@[simp] theorem State.mapPorts_windows : (s.mapPorts f).windows = s.windows := rfl
@[simp] theorem State.mapPorts_drt : (s.mapPorts f).drt = s.drt := rfl
@[simp] theorem State.mapPorts_discardInterval : (s.mapPorts f).discardInterval = s.discardInterval := rfl
@[simp] theorem State.mapPorts_pwq : (s.mapPorts f).pwq = s.pwq := rfl
@[simp] theorem State.mapPorts_lastSequence : (s.mapPorts f).lastSequence = s.lastSequence := rfl
@[simp] theorem State.mapPorts_claim : (s.mapPorts f).claim = s.claim := rfl
@[simp] theorem State.mapPorts_mem : (s.mapPorts f).mem = s.mem := rfl
@[simp] theorem State.mapPorts_store : (s.mapPorts f).store = s.store := rfl
@[simp] theorem State.mapPorts_lastPosition : (s.mapPorts f).lastPosition = s.lastPosition := rfl
@[simp] theorem State.mapPorts_xbm : (s.mapPorts f).xbm = s.xbm := rfl
@[simp] theorem State.mapPorts_resetInput : (s.mapPorts f).resetInput = s.resetInput := rfl
@[simp] theorem State.mapPorts_clearing : (s.mapPorts f).clearing = s.clearing := rfl
@[simp] theorem State.mapPorts_busItems : (s.mapPorts f).busItems = s.busItems := rfl
@[simp] theorem State.mapPorts_choices : (s.mapPorts f).choices = s.choices := rfl
@[simp] theorem State.mapPorts_pending : (s.mapPorts f).pending = s.pending := rfl

end

section

variable (s : State) (w : WindowId) (f : Window → Window)

@[simp] theorem State.modifyWindow_ports : (s.modifyWindow w f).ports = s.ports := rfl
@[simp] theorem State.modifyWindow_drt : (s.modifyWindow w f).drt = s.drt := rfl
@[simp] theorem State.modifyWindow_discardInterval : (s.modifyWindow w f).discardInterval = s.discardInterval := rfl
@[simp] theorem State.modifyWindow_pwq : (s.modifyWindow w f).pwq = s.pwq := rfl
@[simp] theorem State.modifyWindow_lastSequence : (s.modifyWindow w f).lastSequence = s.lastSequence := rfl
@[simp] theorem State.modifyWindow_claim : (s.modifyWindow w f).claim = s.claim := rfl
@[simp] theorem State.modifyWindow_mem : (s.modifyWindow w f).mem = s.mem := rfl
@[simp] theorem State.modifyWindow_store : (s.modifyWindow w f).store = s.store := rfl
@[simp] theorem State.modifyWindow_lastPosition : (s.modifyWindow w f).lastPosition = s.lastPosition := rfl
@[simp] theorem State.modifyWindow_xbm : (s.modifyWindow w f).xbm = s.xbm := rfl
@[simp] theorem State.modifyWindow_resetInput : (s.modifyWindow w f).resetInput = s.resetInput := rfl
@[simp] theorem State.modifyWindow_clearing : (s.modifyWindow w f).clearing = s.clearing := rfl
@[simp] theorem State.modifyWindow_busItems : (s.modifyWindow w f).busItems = s.busItems := rfl
@[simp] theorem State.modifyWindow_choices : (s.modifyWindow w f).choices = s.choices := rfl
@[simp] theorem State.modifyWindow_pending : (s.modifyWindow w f).pending = s.pending := rfl

end

section

variable (s : State) (p : PortId) (r : Record)

@[simp] theorem State.offer_windows : (s.offer p r).windows = s.windows := rfl
@[simp] theorem State.offer_drt : (s.offer p r).drt = s.drt := rfl
@[simp] theorem State.offer_discardInterval : (s.offer p r).discardInterval = s.discardInterval := rfl
@[simp] theorem State.offer_pwq : (s.offer p r).pwq = s.pwq := rfl
@[simp] theorem State.offer_lastSequence : (s.offer p r).lastSequence = s.lastSequence := rfl
@[simp] theorem State.offer_claim : (s.offer p r).claim = s.claim := rfl
@[simp] theorem State.offer_mem : (s.offer p r).mem = s.mem := rfl
@[simp] theorem State.offer_store : (s.offer p r).store = s.store := rfl
@[simp] theorem State.offer_lastPosition : (s.offer p r).lastPosition = s.lastPosition := rfl
@[simp] theorem State.offer_xbm : (s.offer p r).xbm = s.xbm := rfl
@[simp] theorem State.offer_resetInput : (s.offer p r).resetInput = s.resetInput := rfl
@[simp] theorem State.offer_clearing : (s.offer p r).clearing = s.clearing := rfl
@[simp] theorem State.offer_busItems : (s.offer p r).busItems = s.busItems := rfl
@[simp] theorem State.offer_choices : (s.offer p r).choices = s.choices := rfl
@[simp] theorem State.offer_pending : (s.offer p r).pending = s.pending := rfl

end

section

variable (s : State) (r : Record)

@[simp] theorem State.broadcast_windows : (s.broadcast r).windows = s.windows := rfl
@[simp] theorem State.broadcast_drt : (s.broadcast r).drt = s.drt := rfl
@[simp] theorem State.broadcast_discardInterval : (s.broadcast r).discardInterval = s.discardInterval := rfl
@[simp] theorem State.broadcast_pwq : (s.broadcast r).pwq = s.pwq := rfl
@[simp] theorem State.broadcast_lastSequence : (s.broadcast r).lastSequence = s.lastSequence := rfl
@[simp] theorem State.broadcast_claim : (s.broadcast r).claim = s.claim := rfl
@[simp] theorem State.broadcast_mem : (s.broadcast r).mem = s.mem := rfl
@[simp] theorem State.broadcast_store : (s.broadcast r).store = s.store := rfl
@[simp] theorem State.broadcast_lastPosition : (s.broadcast r).lastPosition = s.lastPosition := rfl
@[simp] theorem State.broadcast_xbm : (s.broadcast r).xbm = s.xbm := rfl
@[simp] theorem State.broadcast_resetInput : (s.broadcast r).resetInput = s.resetInput := rfl
@[simp] theorem State.broadcast_clearing : (s.broadcast r).clearing = s.clearing := rfl
@[simp] theorem State.broadcast_busItems : (s.broadcast r).busItems = s.busItems := rfl
@[simp] theorem State.broadcast_choices : (s.broadcast r).choices = s.choices := rfl
@[simp] theorem State.broadcast_pending : (s.broadcast r).pending = s.pending := rfl

end

section

variable (s : State) (q : PortId) (r : Record)

@[simp] theorem State.broadcastExcept_windows : (s.broadcastExcept q r).windows = s.windows := rfl
@[simp] theorem State.broadcastExcept_drt : (s.broadcastExcept q r).drt = s.drt := rfl
@[simp] theorem State.broadcastExcept_discardInterval : (s.broadcastExcept q r).discardInterval = s.discardInterval := rfl
@[simp] theorem State.broadcastExcept_pwq : (s.broadcastExcept q r).pwq = s.pwq := rfl
@[simp] theorem State.broadcastExcept_lastSequence : (s.broadcastExcept q r).lastSequence = s.lastSequence := rfl
@[simp] theorem State.broadcastExcept_claim : (s.broadcastExcept q r).claim = s.claim := rfl
@[simp] theorem State.broadcastExcept_mem : (s.broadcastExcept q r).mem = s.mem := rfl
@[simp] theorem State.broadcastExcept_store : (s.broadcastExcept q r).store = s.store := rfl
@[simp] theorem State.broadcastExcept_lastPosition : (s.broadcastExcept q r).lastPosition = s.lastPosition := rfl
@[simp] theorem State.broadcastExcept_xbm : (s.broadcastExcept q r).xbm = s.xbm := rfl
@[simp] theorem State.broadcastExcept_resetInput : (s.broadcastExcept q r).resetInput = s.resetInput := rfl
@[simp] theorem State.broadcastExcept_clearing : (s.broadcastExcept q r).clearing = s.clearing := rfl
@[simp] theorem State.broadcastExcept_busItems : (s.broadcastExcept q r).busItems = s.busItems := rfl
@[simp] theorem State.broadcastExcept_choices : (s.broadcastExcept q r).choices = s.choices := rfl
@[simp] theorem State.broadcastExcept_pending : (s.broadcastExcept q r).pending = s.pending := rfl

end

section

variable (s : State) (p : PortId) (r : Response)

@[simp] theorem State.answer_windows : (s.answer p r).windows = s.windows := rfl
@[simp] theorem State.answer_drt : (s.answer p r).drt = s.drt := rfl
@[simp] theorem State.answer_discardInterval : (s.answer p r).discardInterval = s.discardInterval := rfl
@[simp] theorem State.answer_pwq : (s.answer p r).pwq = s.pwq := rfl
@[simp] theorem State.answer_lastSequence : (s.answer p r).lastSequence = s.lastSequence := rfl
@[simp] theorem State.answer_claim : (s.answer p r).claim = s.claim := rfl
@[simp] theorem State.answer_mem : (s.answer p r).mem = s.mem := rfl
@[simp] theorem State.answer_store : (s.answer p r).store = s.store := rfl
@[simp] theorem State.answer_lastPosition : (s.answer p r).lastPosition = s.lastPosition := rfl
@[simp] theorem State.answer_xbm : (s.answer p r).xbm = s.xbm := rfl
@[simp] theorem State.answer_resetInput : (s.answer p r).resetInput = s.resetInput := rfl
@[simp] theorem State.answer_clearing : (s.answer p r).clearing = s.clearing := rfl
@[simp] theorem State.answer_busItems : (s.answer p r).busItems = s.busItems := rfl
@[simp] theorem State.answer_choices : (s.answer p r).choices = s.choices := rfl
@[simp] theorem State.answer_pending : (s.answer p r).pending = s.pending := rfl

end

section

variable (s : State) (p : PortId)

@[simp] theorem State.send_windows : (s.send p).windows = s.windows := rfl
@[simp] theorem State.send_drt : (s.send p).drt = s.drt := rfl
@[simp] theorem State.send_discardInterval : (s.send p).discardInterval = s.discardInterval := rfl
@[simp] theorem State.send_pwq : (s.send p).pwq = s.pwq := rfl
@[simp] theorem State.send_lastSequence : (s.send p).lastSequence = s.lastSequence := rfl
@[simp] theorem State.send_claim : (s.send p).claim = s.claim := rfl
@[simp] theorem State.send_mem : (s.send p).mem = s.mem := rfl
@[simp] theorem State.send_store : (s.send p).store = s.store := rfl
@[simp] theorem State.send_lastPosition : (s.send p).lastPosition = s.lastPosition := rfl
@[simp] theorem State.send_xbm : (s.send p).xbm = s.xbm := rfl
@[simp] theorem State.send_resetInput : (s.send p).resetInput = s.resetInput := rfl
@[simp] theorem State.send_clearing : (s.send p).clearing = s.clearing := rfl
@[simp] theorem State.send_busItems : (s.send p).busItems = s.busItems := rfl
@[simp] theorem State.send_choices : (s.send p).choices = s.choices := rfl
@[simp] theorem State.send_pending : (s.send p).pending = s.pending := rfl

end

section

variable (s : State)

@[simp] theorem State.sendAll_windows : (s.sendAll).windows = s.windows := rfl
@[simp] theorem State.sendAll_drt : (s.sendAll).drt = s.drt := rfl
@[simp] theorem State.sendAll_discardInterval : (s.sendAll).discardInterval = s.discardInterval := rfl
@[simp] theorem State.sendAll_pwq : (s.sendAll).pwq = s.pwq := rfl
@[simp] theorem State.sendAll_lastSequence : (s.sendAll).lastSequence = s.lastSequence := rfl
@[simp] theorem State.sendAll_claim : (s.sendAll).claim = s.claim := rfl
@[simp] theorem State.sendAll_mem : (s.sendAll).mem = s.mem := rfl
@[simp] theorem State.sendAll_store : (s.sendAll).store = s.store := rfl
@[simp] theorem State.sendAll_lastPosition : (s.sendAll).lastPosition = s.lastPosition := rfl
@[simp] theorem State.sendAll_xbm : (s.sendAll).xbm = s.xbm := rfl
@[simp] theorem State.sendAll_resetInput : (s.sendAll).resetInput = s.resetInput := rfl
@[simp] theorem State.sendAll_clearing : (s.sendAll).clearing = s.clearing := rfl
@[simp] theorem State.sendAll_busItems : (s.sendAll).busItems = s.busItems := rfl
@[simp] theorem State.sendAll_choices : (s.sendAll).choices = s.choices := rfl
@[simp] theorem State.sendAll_pending : (s.sendAll).pending = s.pending := rfl

end

section

variable (s : State) (p : PortId)

@[simp] theorem State.sendOthers_windows : (s.sendOthers p).windows = s.windows := rfl
@[simp] theorem State.sendOthers_drt : (s.sendOthers p).drt = s.drt := rfl
@[simp] theorem State.sendOthers_discardInterval : (s.sendOthers p).discardInterval = s.discardInterval := rfl
@[simp] theorem State.sendOthers_pwq : (s.sendOthers p).pwq = s.pwq := rfl
@[simp] theorem State.sendOthers_lastSequence : (s.sendOthers p).lastSequence = s.lastSequence := rfl
@[simp] theorem State.sendOthers_claim : (s.sendOthers p).claim = s.claim := rfl
@[simp] theorem State.sendOthers_mem : (s.sendOthers p).mem = s.mem := rfl
@[simp] theorem State.sendOthers_store : (s.sendOthers p).store = s.store := rfl
@[simp] theorem State.sendOthers_lastPosition : (s.sendOthers p).lastPosition = s.lastPosition := rfl
@[simp] theorem State.sendOthers_xbm : (s.sendOthers p).xbm = s.xbm := rfl
@[simp] theorem State.sendOthers_resetInput : (s.sendOthers p).resetInput = s.resetInput := rfl
@[simp] theorem State.sendOthers_clearing : (s.sendOthers p).clearing = s.clearing := rfl
@[simp] theorem State.sendOthers_busItems : (s.sendOthers p).busItems = s.busItems := rfl
@[simp] theorem State.sendOthers_choices : (s.sendOthers p).choices = s.choices := rfl
@[simp] theorem State.sendOthers_pending : (s.sendOthers p).pending = s.pending := rfl

end

section

variable (s : State) (p : PortId) (r : RefusedReason)

@[simp] theorem State.refuse_windows : (s.refuse p r).windows = s.windows := rfl
@[simp] theorem State.refuse_drt : (s.refuse p r).drt = s.drt := rfl
@[simp] theorem State.refuse_discardInterval : (s.refuse p r).discardInterval = s.discardInterval := rfl
@[simp] theorem State.refuse_pwq : (s.refuse p r).pwq = s.pwq := rfl
@[simp] theorem State.refuse_lastSequence : (s.refuse p r).lastSequence = s.lastSequence := rfl
@[simp] theorem State.refuse_claim : (s.refuse p r).claim = s.claim := rfl
@[simp] theorem State.refuse_mem : (s.refuse p r).mem = s.mem := rfl
@[simp] theorem State.refuse_store : (s.refuse p r).store = s.store := rfl
@[simp] theorem State.refuse_lastPosition : (s.refuse p r).lastPosition = s.lastPosition := rfl
@[simp] theorem State.refuse_xbm : (s.refuse p r).xbm = s.xbm := rfl
@[simp] theorem State.refuse_resetInput : (s.refuse p r).resetInput = s.resetInput := rfl
@[simp] theorem State.refuse_clearing : (s.refuse p r).clearing = s.clearing := rfl
@[simp] theorem State.refuse_busItems : (s.refuse p r).busItems = s.busItems := rfl
@[simp] theorem State.refuse_choices : (s.refuse p r).choices = s.choices := rfl
@[simp] theorem State.refuse_pending : (s.refuse p r).pending = s.pending := rfl

end

section

variable (s : State) (w : WindowId)

@[simp] theorem State.takeRef_ports : (s.takeRef w).ports = s.ports := rfl
@[simp] theorem State.takeRef_drt : (s.takeRef w).drt = s.drt := rfl
@[simp] theorem State.takeRef_discardInterval : (s.takeRef w).discardInterval = s.discardInterval := rfl
@[simp] theorem State.takeRef_pwq : (s.takeRef w).pwq = s.pwq := rfl
@[simp] theorem State.takeRef_lastSequence : (s.takeRef w).lastSequence = s.lastSequence := rfl
@[simp] theorem State.takeRef_claim : (s.takeRef w).claim = s.claim := rfl
@[simp] theorem State.takeRef_mem : (s.takeRef w).mem = s.mem := rfl
@[simp] theorem State.takeRef_store : (s.takeRef w).store = s.store := rfl
@[simp] theorem State.takeRef_lastPosition : (s.takeRef w).lastPosition = s.lastPosition := rfl
@[simp] theorem State.takeRef_xbm : (s.takeRef w).xbm = s.xbm := rfl
@[simp] theorem State.takeRef_resetInput : (s.takeRef w).resetInput = s.resetInput := rfl
@[simp] theorem State.takeRef_clearing : (s.takeRef w).clearing = s.clearing := rfl
@[simp] theorem State.takeRef_busItems : (s.takeRef w).busItems = s.busItems := rfl
@[simp] theorem State.takeRef_choices : (s.takeRef w).choices = s.choices := rfl
@[simp] theorem State.takeRef_pending : (s.takeRef w).pending = s.pending := rfl

end

section

variable (s : State) (w : WindowId)

@[simp] theorem State.releaseRef_ports : (s.releaseRef w).ports = s.ports := rfl
@[simp] theorem State.releaseRef_drt : (s.releaseRef w).drt = s.drt := rfl
@[simp] theorem State.releaseRef_discardInterval : (s.releaseRef w).discardInterval = s.discardInterval := rfl
@[simp] theorem State.releaseRef_pwq : (s.releaseRef w).pwq = s.pwq := rfl
@[simp] theorem State.releaseRef_lastSequence : (s.releaseRef w).lastSequence = s.lastSequence := rfl
@[simp] theorem State.releaseRef_claim : (s.releaseRef w).claim = s.claim := rfl
@[simp] theorem State.releaseRef_mem : (s.releaseRef w).mem = s.mem := rfl
@[simp] theorem State.releaseRef_store : (s.releaseRef w).store = s.store := rfl
@[simp] theorem State.releaseRef_lastPosition : (s.releaseRef w).lastPosition = s.lastPosition := rfl
@[simp] theorem State.releaseRef_xbm : (s.releaseRef w).xbm = s.xbm := rfl
@[simp] theorem State.releaseRef_resetInput : (s.releaseRef w).resetInput = s.resetInput := rfl
@[simp] theorem State.releaseRef_clearing : (s.releaseRef w).clearing = s.clearing := rfl
@[simp] theorem State.releaseRef_busItems : (s.releaseRef w).busItems = s.busItems := rfl
@[simp] theorem State.releaseRef_choices : (s.releaseRef w).choices = s.choices := rfl
@[simp] theorem State.releaseRef_pending : (s.releaseRef w).pending = s.pending := rfl

end

section

variable (s : State) (w : WindowId) (st : WindowState)

@[simp] theorem State.setWindowState_drt : (s.setWindowState w st).drt = s.drt := rfl
@[simp] theorem State.setWindowState_discardInterval : (s.setWindowState w st).discardInterval = s.discardInterval := rfl
@[simp] theorem State.setWindowState_pwq : (s.setWindowState w st).pwq = s.pwq := rfl
@[simp] theorem State.setWindowState_lastSequence : (s.setWindowState w st).lastSequence = s.lastSequence := rfl
@[simp] theorem State.setWindowState_claim : (s.setWindowState w st).claim = s.claim := rfl
@[simp] theorem State.setWindowState_mem : (s.setWindowState w st).mem = s.mem := rfl
@[simp] theorem State.setWindowState_store : (s.setWindowState w st).store = s.store := rfl
@[simp] theorem State.setWindowState_lastPosition : (s.setWindowState w st).lastPosition = s.lastPosition := rfl
@[simp] theorem State.setWindowState_xbm : (s.setWindowState w st).xbm = s.xbm := rfl
@[simp] theorem State.setWindowState_resetInput : (s.setWindowState w st).resetInput = s.resetInput := rfl
@[simp] theorem State.setWindowState_clearing : (s.setWindowState w st).clearing = s.clearing := rfl
@[simp] theorem State.setWindowState_busItems : (s.setWindowState w st).busItems = s.busItems := rfl
@[simp] theorem State.setWindowState_choices : (s.setWindowState w st).choices = s.choices := rfl
@[simp] theorem State.setWindowState_pending : (s.setWindowState w st).pending = s.pending := rfl

end

section

variable (s : State) (t : Tag) (phase : Phase)

@[simp] theorem State.setPhase_ports : (s.setPhase t phase).ports = s.ports := rfl
@[simp] theorem State.setPhase_windows : (s.setPhase t phase).windows = s.windows := rfl
@[simp] theorem State.setPhase_discardInterval : (s.setPhase t phase).discardInterval = s.discardInterval := rfl
@[simp] theorem State.setPhase_pwq : (s.setPhase t phase).pwq = s.pwq := rfl
@[simp] theorem State.setPhase_lastSequence : (s.setPhase t phase).lastSequence = s.lastSequence := rfl
@[simp] theorem State.setPhase_claim : (s.setPhase t phase).claim = s.claim := rfl
@[simp] theorem State.setPhase_mem : (s.setPhase t phase).mem = s.mem := rfl
@[simp] theorem State.setPhase_store : (s.setPhase t phase).store = s.store := rfl
@[simp] theorem State.setPhase_lastPosition : (s.setPhase t phase).lastPosition = s.lastPosition := rfl
@[simp] theorem State.setPhase_xbm : (s.setPhase t phase).xbm = s.xbm := rfl
@[simp] theorem State.setPhase_resetInput : (s.setPhase t phase).resetInput = s.resetInput := rfl
@[simp] theorem State.setPhase_clearing : (s.setPhase t phase).clearing = s.clearing := rfl
@[simp] theorem State.setPhase_busItems : (s.setPhase t phase).busItems = s.busItems := rfl
@[simp] theorem State.setPhase_choices : (s.setPhase t phase).choices = s.choices := rfl
@[simp] theorem State.setPhase_pending : (s.setPhase t phase).pending = s.pending := rfl

end

section

variable (s : State) (t : Tag)

@[simp] theorem State.orphan_ports : (s.orphan t).ports = s.ports := rfl
@[simp] theorem State.orphan_windows : (s.orphan t).windows = s.windows := rfl
@[simp] theorem State.orphan_discardInterval : (s.orphan t).discardInterval = s.discardInterval := rfl
@[simp] theorem State.orphan_pwq : (s.orphan t).pwq = s.pwq := rfl
@[simp] theorem State.orphan_lastSequence : (s.orphan t).lastSequence = s.lastSequence := rfl
@[simp] theorem State.orphan_claim : (s.orphan t).claim = s.claim := rfl
@[simp] theorem State.orphan_mem : (s.orphan t).mem = s.mem := rfl
@[simp] theorem State.orphan_store : (s.orphan t).store = s.store := rfl
@[simp] theorem State.orphan_lastPosition : (s.orphan t).lastPosition = s.lastPosition := rfl
@[simp] theorem State.orphan_xbm : (s.orphan t).xbm = s.xbm := rfl
@[simp] theorem State.orphan_resetInput : (s.orphan t).resetInput = s.resetInput := rfl
@[simp] theorem State.orphan_clearing : (s.orphan t).clearing = s.clearing := rfl
@[simp] theorem State.orphan_busItems : (s.orphan t).busItems = s.busItems := rfl
@[simp] theorem State.orphan_choices : (s.orphan t).choices = s.choices := rfl
@[simp] theorem State.orphan_pending : (s.orphan t).pending = s.pending := rfl

end

section

variable (s : State) (e : Entry)

@[simp] theorem State.dropEntry_ports : (s.dropEntry e).ports = s.ports := rfl
@[simp] theorem State.dropEntry_discardInterval : (s.dropEntry e).discardInterval = s.discardInterval := rfl
@[simp] theorem State.dropEntry_pwq : (s.dropEntry e).pwq = s.pwq := rfl
@[simp] theorem State.dropEntry_lastSequence : (s.dropEntry e).lastSequence = s.lastSequence := rfl
@[simp] theorem State.dropEntry_claim : (s.dropEntry e).claim = s.claim := rfl
@[simp] theorem State.dropEntry_mem : (s.dropEntry e).mem = s.mem := rfl
@[simp] theorem State.dropEntry_store : (s.dropEntry e).store = s.store := rfl
@[simp] theorem State.dropEntry_lastPosition : (s.dropEntry e).lastPosition = s.lastPosition := rfl
@[simp] theorem State.dropEntry_xbm : (s.dropEntry e).xbm = s.xbm := rfl
@[simp] theorem State.dropEntry_resetInput : (s.dropEntry e).resetInput = s.resetInput := rfl
@[simp] theorem State.dropEntry_clearing : (s.dropEntry e).clearing = s.clearing := rfl
@[simp] theorem State.dropEntry_busItems : (s.dropEntry e).busItems = s.busItems := rfl
@[simp] theorem State.dropEntry_choices : (s.dropEntry e).choices = s.choices := rfl
@[simp] theorem State.dropEntry_pending : (s.dropEntry e).pending = s.pending := rfl

end

section

variable (s : State) (p : PortId)

@[simp] theorem State.grantClaim_ports : (s.grantClaim p).ports = s.ports := rfl
@[simp] theorem State.grantClaim_windows : (s.grantClaim p).windows = s.windows := rfl
@[simp] theorem State.grantClaim_drt : (s.grantClaim p).drt = s.drt := rfl
@[simp] theorem State.grantClaim_discardInterval : (s.grantClaim p).discardInterval = s.discardInterval := rfl
@[simp] theorem State.grantClaim_pwq : (s.grantClaim p).pwq = s.pwq := rfl
@[simp] theorem State.grantClaim_lastSequence : (s.grantClaim p).lastSequence = s.lastSequence := rfl
@[simp] theorem State.grantClaim_mem : (s.grantClaim p).mem = s.mem := rfl
@[simp] theorem State.grantClaim_store : (s.grantClaim p).store = s.store := rfl
@[simp] theorem State.grantClaim_lastPosition : (s.grantClaim p).lastPosition = s.lastPosition := rfl
@[simp] theorem State.grantClaim_xbm : (s.grantClaim p).xbm = s.xbm := rfl
@[simp] theorem State.grantClaim_resetInput : (s.grantClaim p).resetInput = s.resetInput := rfl
@[simp] theorem State.grantClaim_clearing : (s.grantClaim p).clearing = s.clearing := rfl
@[simp] theorem State.grantClaim_busItems : (s.grantClaim p).busItems = s.busItems := rfl
@[simp] theorem State.grantClaim_choices : (s.grantClaim p).choices = s.choices := rfl
@[simp] theorem State.grantClaim_pending : (s.grantClaim p).pending = s.pending := rfl

end

section

variable (s : State) (p : PortId)

@[simp] theorem State.freeClaim_windows : (s.freeClaim p).windows = s.windows := rfl
@[simp] theorem State.freeClaim_drt : (s.freeClaim p).drt = s.drt := rfl
@[simp] theorem State.freeClaim_discardInterval : (s.freeClaim p).discardInterval = s.discardInterval := rfl
@[simp] theorem State.freeClaim_pwq : (s.freeClaim p).pwq = s.pwq := rfl
@[simp] theorem State.freeClaim_lastSequence : (s.freeClaim p).lastSequence = s.lastSequence := rfl
@[simp] theorem State.freeClaim_mem : (s.freeClaim p).mem = s.mem := rfl
@[simp] theorem State.freeClaim_store : (s.freeClaim p).store = s.store := rfl
@[simp] theorem State.freeClaim_lastPosition : (s.freeClaim p).lastPosition = s.lastPosition := rfl
@[simp] theorem State.freeClaim_xbm : (s.freeClaim p).xbm = s.xbm := rfl
@[simp] theorem State.freeClaim_resetInput : (s.freeClaim p).resetInput = s.resetInput := rfl
@[simp] theorem State.freeClaim_clearing : (s.freeClaim p).clearing = s.clearing := rfl
@[simp] theorem State.freeClaim_busItems : (s.freeClaim p).busItems = s.busItems := rfl
@[simp] theorem State.freeClaim_choices : (s.freeClaim p).choices = s.choices := rfl
@[simp] theorem State.freeClaim_pending : (s.freeClaim p).pending = s.pending := rfl

end

section

variable (s : State) (p : PortId)

@[simp] theorem State.expireLease_windows : (s.expireLease p).windows = s.windows := rfl
@[simp] theorem State.expireLease_drt : (s.expireLease p).drt = s.drt := rfl
@[simp] theorem State.expireLease_discardInterval : (s.expireLease p).discardInterval = s.discardInterval := rfl
@[simp] theorem State.expireLease_pwq : (s.expireLease p).pwq = s.pwq := rfl
@[simp] theorem State.expireLease_lastSequence : (s.expireLease p).lastSequence = s.lastSequence := rfl
@[simp] theorem State.expireLease_mem : (s.expireLease p).mem = s.mem := rfl
@[simp] theorem State.expireLease_store : (s.expireLease p).store = s.store := rfl
@[simp] theorem State.expireLease_lastPosition : (s.expireLease p).lastPosition = s.lastPosition := rfl
@[simp] theorem State.expireLease_xbm : (s.expireLease p).xbm = s.xbm := rfl
@[simp] theorem State.expireLease_resetInput : (s.expireLease p).resetInput = s.resetInput := rfl
@[simp] theorem State.expireLease_clearing : (s.expireLease p).clearing = s.clearing := rfl
@[simp] theorem State.expireLease_busItems : (s.expireLease p).busItems = s.busItems := rfl
@[simp] theorem State.expireLease_choices : (s.expireLease p).choices = s.choices := rfl
@[simp] theorem State.expireLease_pending : (s.expireLease p).pending = s.pending := rfl

end

section

variable (s : State) (p : PortId)

@[simp] theorem State.sendLinkFault_windows : (s.sendLinkFault p).windows = s.windows := rfl
@[simp] theorem State.sendLinkFault_drt : (s.sendLinkFault p).drt = s.drt := rfl
@[simp] theorem State.sendLinkFault_discardInterval : (s.sendLinkFault p).discardInterval = s.discardInterval := rfl
@[simp] theorem State.sendLinkFault_pwq : (s.sendLinkFault p).pwq = s.pwq := rfl
@[simp] theorem State.sendLinkFault_lastSequence : (s.sendLinkFault p).lastSequence = s.lastSequence := rfl
@[simp] theorem State.sendLinkFault_claim : (s.sendLinkFault p).claim = s.claim := rfl
@[simp] theorem State.sendLinkFault_mem : (s.sendLinkFault p).mem = s.mem := rfl
@[simp] theorem State.sendLinkFault_store : (s.sendLinkFault p).store = s.store := rfl
@[simp] theorem State.sendLinkFault_lastPosition : (s.sendLinkFault p).lastPosition = s.lastPosition := rfl
@[simp] theorem State.sendLinkFault_xbm : (s.sendLinkFault p).xbm = s.xbm := rfl
@[simp] theorem State.sendLinkFault_resetInput : (s.sendLinkFault p).resetInput = s.resetInput := rfl
@[simp] theorem State.sendLinkFault_clearing : (s.sendLinkFault p).clearing = s.clearing := rfl
@[simp] theorem State.sendLinkFault_busItems : (s.sendLinkFault p).busItems = s.busItems := rfl
@[simp] theorem State.sendLinkFault_choices : (s.sendLinkFault p).choices = s.choices := rfl
@[simp] theorem State.sendLinkFault_pending : (s.sendLinkFault p).pending = s.pending := rfl

end

section

variable (s : State)

@[simp] theorem State.choose_ports : (s.choose).ports = s.ports := rfl
@[simp] theorem State.choose_windows : (s.choose).windows = s.windows := rfl
@[simp] theorem State.choose_drt : (s.choose).drt = s.drt := rfl
@[simp] theorem State.choose_discardInterval : (s.choose).discardInterval = s.discardInterval := rfl
@[simp] theorem State.choose_pwq : (s.choose).pwq = s.pwq := rfl
@[simp] theorem State.choose_lastSequence : (s.choose).lastSequence = s.lastSequence := rfl
@[simp] theorem State.choose_claim : (s.choose).claim = s.claim := rfl
@[simp] theorem State.choose_mem : (s.choose).mem = s.mem := rfl
@[simp] theorem State.choose_store : (s.choose).store = s.store := rfl
@[simp] theorem State.choose_lastPosition : (s.choose).lastPosition = s.lastPosition := rfl
@[simp] theorem State.choose_xbm : (s.choose).xbm = s.xbm := rfl
@[simp] theorem State.choose_resetInput : (s.choose).resetInput = s.resetInput := rfl
@[simp] theorem State.choose_clearing : (s.choose).clearing = s.clearing := rfl
@[simp] theorem State.choose_busItems : (s.choose).busItems = s.busItems := rfl
@[simp] theorem State.choose_pending : (s.choose).pending = s.pending := rfl

end

section

variable (s : State) (t : Transaction)

@[simp] theorem State.setTransaction_ports : (s.setTransaction t).ports = s.ports := rfl
@[simp] theorem State.setTransaction_windows : (s.setTransaction t).windows = s.windows := rfl
@[simp] theorem State.setTransaction_drt : (s.setTransaction t).drt = s.drt := rfl
@[simp] theorem State.setTransaction_discardInterval : (s.setTransaction t).discardInterval = s.discardInterval := rfl
@[simp] theorem State.setTransaction_pwq : (s.setTransaction t).pwq = s.pwq := rfl
@[simp] theorem State.setTransaction_lastSequence : (s.setTransaction t).lastSequence = s.lastSequence := rfl
@[simp] theorem State.setTransaction_claim : (s.setTransaction t).claim = s.claim := rfl
@[simp] theorem State.setTransaction_mem : (s.setTransaction t).mem = s.mem := rfl
@[simp] theorem State.setTransaction_store : (s.setTransaction t).store = s.store := rfl
@[simp] theorem State.setTransaction_lastPosition : (s.setTransaction t).lastPosition = s.lastPosition := rfl
@[simp] theorem State.setTransaction_resetInput : (s.setTransaction t).resetInput = s.resetInput := rfl
@[simp] theorem State.setTransaction_clearing : (s.setTransaction t).clearing = s.clearing := rfl
@[simp] theorem State.setTransaction_busItems : (s.setTransaction t).busItems = s.busItems := rfl
@[simp] theorem State.setTransaction_choices : (s.setTransaction t).choices = s.choices := rfl
@[simp] theorem State.setTransaction_pending : (s.setTransaction t).pending = s.pending := rfl

end

section

variable (s : State) (t : Transaction)

@[simp] theorem State.sendBeat_ports : (s.sendBeat t).ports = s.ports := rfl
@[simp] theorem State.sendBeat_windows : (s.sendBeat t).windows = s.windows := rfl
@[simp] theorem State.sendBeat_drt : (s.sendBeat t).drt = s.drt := rfl
@[simp] theorem State.sendBeat_discardInterval : (s.sendBeat t).discardInterval = s.discardInterval := rfl
@[simp] theorem State.sendBeat_pwq : (s.sendBeat t).pwq = s.pwq := rfl
@[simp] theorem State.sendBeat_lastSequence : (s.sendBeat t).lastSequence = s.lastSequence := rfl
@[simp] theorem State.sendBeat_claim : (s.sendBeat t).claim = s.claim := rfl
@[simp] theorem State.sendBeat_mem : (s.sendBeat t).mem = s.mem := rfl
@[simp] theorem State.sendBeat_store : (s.sendBeat t).store = s.store := rfl
@[simp] theorem State.sendBeat_lastPosition : (s.sendBeat t).lastPosition = s.lastPosition := rfl
@[simp] theorem State.sendBeat_xbm : (s.sendBeat t).xbm = s.xbm := rfl
@[simp] theorem State.sendBeat_resetInput : (s.sendBeat t).resetInput = s.resetInput := rfl
@[simp] theorem State.sendBeat_clearing : (s.sendBeat t).clearing = s.clearing := rfl
@[simp] theorem State.sendBeat_choices : (s.sendBeat t).choices = s.choices := rfl
@[simp] theorem State.sendBeat_pending : (s.sendBeat t).pending = s.pending := rfl

end

section

variable (s : State) (st : Stream) (a n : Nat)

@[simp] theorem State.startTransaction_ports : (s.startTransaction st a n).ports = s.ports := rfl
@[simp] theorem State.startTransaction_windows : (s.startTransaction st a n).windows = s.windows := rfl
@[simp] theorem State.startTransaction_drt : (s.startTransaction st a n).drt = s.drt := rfl
@[simp] theorem State.startTransaction_discardInterval : (s.startTransaction st a n).discardInterval = s.discardInterval := rfl
@[simp] theorem State.startTransaction_pwq : (s.startTransaction st a n).pwq = s.pwq := rfl
@[simp] theorem State.startTransaction_lastSequence : (s.startTransaction st a n).lastSequence = s.lastSequence := rfl
@[simp] theorem State.startTransaction_claim : (s.startTransaction st a n).claim = s.claim := rfl
@[simp] theorem State.startTransaction_mem : (s.startTransaction st a n).mem = s.mem := rfl
@[simp] theorem State.startTransaction_store : (s.startTransaction st a n).store = s.store := rfl
@[simp] theorem State.startTransaction_lastPosition : (s.startTransaction st a n).lastPosition = s.lastPosition := rfl
@[simp] theorem State.startTransaction_resetInput : (s.startTransaction st a n).resetInput = s.resetInput := rfl
@[simp] theorem State.startTransaction_clearing : (s.startTransaction st a n).clearing = s.clearing := rfl
@[simp] theorem State.startTransaction_choices : (s.startTransaction st a n).choices = s.choices := rfl
@[simp] theorem State.startTransaction_pending : (s.startTransaction st a n).pending = s.pending := rfl

end

/-! ## One port, one window -/

@[simp] theorem State.port_modifyPort (s : State) (p q : PortId) (f : Port → Port) :
    (s.modifyPort p f).port q = if q = p then f (s.port p) else s.port q := by
  by_cases h : q = p
  · subst h; simp [State.port, State.modifyPort]
  · have : (p : Nat) ≠ q := fun e => h (Fin.ext e.symm)
    simp [State.port, State.modifyPort, h, this]

@[simp] theorem State.port_mapPorts (s : State) (q : PortId) (f : PortId → Port → Port) :
    (s.mapPorts f).port q = f q (s.port q) := by
  simp [State.port, State.mapPorts]

@[simp] theorem State.window_modifyWindow (s : State) (w v : WindowId) (f : Window → Window) :
    (s.modifyWindow w f).window v = if v = w then f (s.window w) else s.window v := by
  by_cases h : v = w
  · subst h; simp [State.window, State.modifyWindow]
  · have : (w : Nat) ≠ v := fun e => h (Fin.ext e.symm)
    simp [State.window, State.modifyWindow, h, this]

@[simp] theorem State.port_offer (s : State) (p q : PortId) (r : Record) :
    (s.offer p r).port q = if q = p then (s.port p).offer r else s.port q := by
  simp [State.offer]

@[simp] theorem State.port_broadcast (s : State) (q : PortId) (r : Record) :
    (s.broadcast r).port q = (s.port q).offer r := by
  simp [State.broadcast]

@[simp] theorem State.port_broadcastExcept (s : State) (p q : PortId) (r : Record) :
    (s.broadcastExcept p r).port q = if q = p then s.port q else (s.port q).offer r := by
  simp [State.broadcastExcept]

@[simp] theorem State.port_answer (s : State) (p q : PortId) (r : Response) :
    (s.answer p r).port q = if q = p then (s.port p).answer r else s.port q := by
  simp [State.answer]

@[simp] theorem State.port_send (s : State) (p q : PortId) :
    (s.send p).port q = if q = p then (s.port p).send else s.port q := by
  simp [State.send]

@[simp] theorem State.port_sendAll (s : State) (q : PortId) : s.sendAll.port q = (s.port q).send := by
  simp [State.sendAll]

@[simp] theorem State.port_sendOthers (s : State) (p q : PortId) :
    (s.sendOthers p).port q = if q = p then s.port q else (s.port q).send := by
  simp [State.sendOthers]

@[simp] theorem State.window_sendAll (s : State) (w : WindowId) : s.sendAll.window w = s.window w := rfl

@[simp] theorem State.window_sendOthers (s : State) (p : PortId) (w : WindowId) :
    (s.sendOthers p).window w = s.window w := rfl

@[simp] theorem State.port_choose (s : State) (q : PortId) : s.choose.port q = s.port q := rfl

@[simp] theorem State.window_choose (s : State) (w : WindowId) : s.choose.window w = s.window w := rfl

@[simp] theorem State.window_send (s : State) (p : PortId) (w : WindowId) : (s.send p).window w = s.window w := rfl

@[simp] theorem State.port_refuse (s : State) (p q : PortId) (r : RefusedReason) :
    (s.refuse p r).port q = if q = p then (s.port p).answer (.refused r) else s.port q := by
  simp [State.refuse]

@[simp] theorem State.port_modifyWindow (s : State) (w : WindowId) (f : Window → Window) (q : PortId) :
    (s.modifyWindow w f).port q = s.port q := rfl

@[simp] theorem State.window_modifyPort (s : State) (p : PortId) (f : Port → Port) (w : WindowId) :
    (s.modifyPort p f).window w = s.window w := rfl

@[simp] theorem State.window_mapPorts (s : State) (f : PortId → Port → Port) (w : WindowId) :
    (s.mapPorts f).window w = s.window w := rfl

@[simp] theorem State.window_offer (s : State) (p : PortId) (r : Record) (w : WindowId) :
    (s.offer p r).window w = s.window w := rfl

@[simp] theorem State.window_broadcast (s : State) (r : Record) (w : WindowId) :
    (s.broadcast r).window w = s.window w := rfl

@[simp] theorem State.window_broadcastExcept (s : State) (p : PortId) (r : Record) (w : WindowId) :
    (s.broadcastExcept p r).window w = s.window w := rfl

@[simp] theorem State.window_answer (s : State) (p : PortId) (r : Response) (w : WindowId) :
    (s.answer p r).window w = s.window w := rfl

@[simp] theorem State.port_takeRef (s : State) (w : WindowId) (q : PortId) : (s.takeRef w).port q = s.port q := rfl

@[simp] theorem State.port_releaseRef (s : State) (w : WindowId) (q : PortId) : (s.releaseRef w).port q = s.port q := rfl

@[simp] theorem State.port_setPhase (s : State) (t : Tag) (phase : Phase) (q : PortId) :
    (s.setPhase t phase).port q = s.port q := rfl

@[simp] theorem State.window_setPhase (s : State) (t : Tag) (phase : Phase) (w : WindowId) :
    (s.setPhase t phase).window w = s.window w := rfl

@[simp] theorem State.window_takeRef (s : State) (w v : WindowId) :
    (s.takeRef w).window v =
      if v = w then { s.window w with refCount := (s.window w).refCount + 1 } else s.window v := by
  simp [State.takeRef]

@[simp] theorem State.window_releaseRef (s : State) (w v : WindowId) :
    (s.releaseRef w).window v =
      if v = w then { s.window w with refCount := (s.window w).refCount - 1 } else s.window v := by
  simp [State.releaseRef]

@[simp] theorem State.window_setWindowState (s : State) (w v : WindowId) (st : WindowState) :
    (s.setWindowState w st).window v = if v = w then { s.window w with state := st } else s.window v := by
  simp [State.setWindowState]

@[simp] theorem State.port_setWindowState (s : State) (w : WindowId) (st : WindowState) (q : PortId) :
    (s.setWindowState w st).port q = (s.port q).offer (.windowChanged w st) := by
  simp [State.setWindowState]

/-! ## Equality of tables by their places -/

theorem State.ports_ext {s t : State} (h : ∀ p, s.port p = t.port p) : s.ports = t.ports :=
  Vector.ext (fun i hi => h ⟨i, hi⟩)

theorem State.windows_ext {s t : State} (h : ∀ w, s.window w = t.window w) : s.windows = t.windows :=
  Vector.ext (fun i hi => h ⟨i, hi⟩)

/-! ## Ports -/

@[simp] theorem Port.offer_state (port : Port) (r : Record) : (port.offer r).state = port.state := by
  unfold Port.offer; split <;> rfl

@[simp] theorem Port.offer_online (port : Port) (r : Record) : (port.offer r).online = port.online := by
  simp [Port.online]

theorem Port.offer_frame (port : Port) (r : Record) : port.offer r = { port with queue := (port.offer r).queue } := by
  unfold Port.offer; split <;> rfl

theorem Port.offer_of_not_online {port : Port} (h : port.online = false) (r : Record) : port.offer r = port := by
  simp [Port.offer, h]

@[simp] theorem Port.offerAll_nil (port : Port) : port.offerAll [] = port := rfl

@[simp] theorem Port.offerAll_cons (port : Port) (r : Record) (l : List Record) :
    port.offerAll (r :: l) = (port.offer r).offerAll l := rfl

theorem Port.offerAll_append (port : Port) (k l : List Record) :
    port.offerAll (k ++ l) = (port.offerAll k).offerAll l := by
  simp [Port.offerAll]

theorem Port.offerAll_of_not_online {port : Port} (h : port.online = false) (l : List Record) :
    port.offerAll l = port := by
  induction l with
  | nil => rfl
  | cons r l ih => rw [Port.offerAll_cons, Port.offer_of_not_online h, ih]

/-- A port that has decided no response sends nothing. -/
theorem Port.send_of_none {port : Port} (h : port.decided = none) : port.send = port := by
  simp [Port.send, h]

/-- What sending makes of a port that has decided a response. -/
theorem Port.send_of_decided {port : Port} {r : Response} (h : port.inHand = some (.decided r)) :
    port.send = { port with buffer := port.buffer.tail, inHand := none, sent := port.sent ++ [.response r] } := by
  simp [Port.send, Port.decided, h]

@[simp] theorem Port.send_state (port : Port) : port.send.state = port.state := by
  unfold Port.send; split <;> rfl

@[simp] theorem Port.send_dropped (port : Port) : port.send.dropped = port.dropped := by
  unfold Port.send; split <;> rfl

@[simp] theorem Port.send_staging (port : Port) : port.send.staging = port.staging := by
  unfold Port.send; split <;> rfl

@[simp] theorem Port.send_queue (port : Port) : port.send.queue = port.queue := by
  unfold Port.send; split <;> rfl

@[simp] theorem Port.send_wviewSel (port : Port) : port.send.wviewSel = port.wviewSel := by
  unfold Port.send; split <;> rfl

@[simp] theorem Port.send_tviewSel (port : Port) : port.send.tviewSel = port.tviewSel := by
  unfold Port.send; split <;> rfl

@[simp] theorem Port.send_attnEnable (port : Port) : port.send.attnEnable = port.attnEnable := by
  unfold Port.send; split <;> rfl

@[simp] theorem Port.send_online (port : Port) : port.send.online = port.online := by
  simp [Port.online]

@[simp] theorem Port.send_readInHand (port : Port) : port.send.readInHand = port.readInHand := by
  unfold Port.send
  split
  · rename_i h
    unfold Port.decided at h
    split at h
    · rename_i hi
      simp [Port.readInHand, hi]
    · cases h
  · rfl

@[simp] theorem Port.send_decided (port : Port) : port.send.decided = none := by
  unfold Port.send
  split
  · rfl
  · assumption

@[simp] theorem Port.answer_decided (port : Port) (r : Response) : (port.answer r).decided = some r := rfl

@[simp] theorem Port.answer_readInHand (port : Port) (r : Response) : (port.answer r).readInHand = none := rfl

@[simp] theorem State.online_send (s : State) (p q : PortId) : (s.send p).online q = s.online q := by
  by_cases h : q = p <;> simp [State.online, h]

/-- An update of a port that leaves its record as it is leaves the state as it is. -/
theorem State.modifyPort_of_fixed {s : State} {p : PortId} {f : Port → Port} (h : f (s.port p) = s.port p) :
    s.modifyPort p f = s := by
  have hp : (s.modifyPort p f).ports = s.ports := State.ports_ext (fun q => by
    rw [State.port_modifyPort]
    by_cases hq : q = p
    · subst hq; simp [h]
    · simp [hq])
  calc s.modifyPort p f = { s with ports := (s.modifyPort p f).ports } := rfl
    _ = s := by rw [hp]

/-- Updates of every port that leave each record as it is leave the state as it is. -/
theorem State.mapPorts_of_fixed {s : State} {f : PortId → Port → Port} (h : ∀ p, f p (s.port p) = s.port p) :
    s.mapPorts f = s := by
  have hp : (s.mapPorts f).ports = s.ports := State.ports_ext (fun q => by rw [State.port_mapPorts, h])
  calc s.mapPorts f = { s with ports := (s.mapPorts f).ports } := rfl
    _ = s := by rw [hp]

/-- Two updates of one port are one. -/
theorem State.modifyPort_modifyPort (s : State) (p : PortId) (f g : Port → Port) :
    (s.modifyPort p f).modifyPort p g = s.modifyPort p (fun port => g (f port)) := by
  simp [State.modifyPort]

/-- Nothing leaves where no response is decided. -/
theorem State.send_of_none {s : State} {p : PortId} (h : (s.port p).decided = none) : s.send p = s :=
  State.modifyPort_of_fixed (Port.send_of_none h)

/-- Nothing leaves where every response has left. -/
theorem State.sendAll_of_allSent {s : State} (h : s.allSent) : s.sendAll = s :=
  State.mapPorts_of_fixed (fun p => Port.send_of_none (h p))

theorem State.sendOthers_of_none {s : State} {p : PortId} (h : ∀ q, q ≠ p → (s.port q).decided = none) :
    s.sendOthers p = s :=
  State.mapPorts_of_fixed (fun q => by
    by_cases hq : q = p
    · simp [hq]
    · simp [hq, Port.send_of_none (h q hq)])

/-- What is sent has left: nothing decided is left at any port. -/
theorem State.allSent_sendAll (s : State) : s.sendAll.allSent := fun p => by simp

@[simp] theorem State.sendAll_sendAll (s : State) : s.sendAll.sendAll = s.sendAll :=
  State.sendAll_of_allSent s.allSent_sendAll

@[simp] theorem State.sendOthers_sendOthers (s : State) (p : PortId) :
    (s.sendOthers p).sendOthers p = s.sendOthers p :=
  State.sendOthers_of_none (fun q hq => by simp [hq])

@[simp] theorem State.online_sendAll (s : State) (q : PortId) : s.sendAll.online q = s.online q := by
  simp [State.online]

@[simp] theorem Port.answer_online (port : Port) (r : Response) : (port.answer r).online = port.online := rfl

@[simp] theorem State.online_answer (s : State) (p q : PortId) (r : Response) :
    (s.answer p r).online q = s.online q := by
  by_cases h : q = p <;> simp [State.online, h]

/-- Two states that agree in every field are equal. -/
theorem State.eq_of_fields {s t : State} (h1 : s.ports = t.ports) (h2 : s.windows = t.windows) (h3 : s.drt = t.drt)
    (h4 : s.discardInterval = t.discardInterval) (h5 : s.pwq = t.pwq) (h6 : s.lastSequence = t.lastSequence)
    (h7 : s.claim = t.claim) (h8 : s.mem = t.mem) (h9 : s.store = t.store) (h10 : s.lastPosition = t.lastPosition)
    (h11 : s.xbm = t.xbm) (h12 : s.resetInput = t.resetInput) (h13 : s.clearing = t.clearing)
    (h14 : s.busItems = t.busItems) (h15 : s.choices = t.choices) (h16 : s.pending = t.pending) : s = t := by
  cases s; cases t; simp_all

end Sys2Proof.Machine
end

