-- ==== Sys2Proof/Laws/Arbiters.lean ====
section
/-! SUPPORT. The two arbiters: the fields that a grant can change, when a grant is made, and that with no grant due nothing is
made. -/

namespace Sys2Proof.Machine

/-! ## What grants can change -/

theorem State.startDrain_frame (s : State) :
    s.startDrain = { s with pwq := s.startDrain.pwq } := by
  unfold State.startDrain; split <;> rfl

section

variable (s : State)

@[simp] theorem State.startDrain_ports : s.startDrain.ports = s.ports := (congrArg State.ports (s.startDrain_frame) :)
@[simp] theorem State.startDrain_windows : s.startDrain.windows = s.windows := (congrArg State.windows (s.startDrain_frame) :)
@[simp] theorem State.startDrain_drt : s.startDrain.drt = s.drt := (congrArg State.drt (s.startDrain_frame) :)
@[simp] theorem State.startDrain_discardInterval : s.startDrain.discardInterval = s.discardInterval := (congrArg State.discardInterval (s.startDrain_frame) :)
@[simp] theorem State.startDrain_lastSequence : s.startDrain.lastSequence = s.lastSequence := (congrArg State.lastSequence (s.startDrain_frame) :)
@[simp] theorem State.startDrain_claim : s.startDrain.claim = s.claim := (congrArg State.claim (s.startDrain_frame) :)
@[simp] theorem State.startDrain_mem : s.startDrain.mem = s.mem := (congrArg State.mem (s.startDrain_frame) :)
@[simp] theorem State.startDrain_store : s.startDrain.store = s.store := (congrArg State.store (s.startDrain_frame) :)
@[simp] theorem State.startDrain_lastPosition : s.startDrain.lastPosition = s.lastPosition := (congrArg State.lastPosition (s.startDrain_frame) :)
@[simp] theorem State.startDrain_xbm : s.startDrain.xbm = s.xbm := (congrArg State.xbm (s.startDrain_frame) :)
@[simp] theorem State.startDrain_resetInput : s.startDrain.resetInput = s.resetInput := (congrArg State.resetInput (s.startDrain_frame) :)
@[simp] theorem State.startDrain_clearing : s.startDrain.clearing = s.clearing := (congrArg State.clearing (s.startDrain_frame) :)
@[simp] theorem State.startDrain_busItems : s.startDrain.busItems = s.busItems := (congrArg State.busItems (s.startDrain_frame) :)
@[simp] theorem State.startDrain_choices : s.startDrain.choices = s.choices := (congrArg State.choices (s.startDrain_frame) :)
@[simp] theorem State.startDrain_pending : s.startDrain.pending = s.pending := (congrArg State.pending (s.startDrain_frame) :)

end

theorem State.startFetch_frame (s : State) (r : Resource) :
    s.startFetch r = { s with drt := (s.startFetch r).drt } := by
  unfold State.startFetch; split <;> rfl

section

variable (s : State) (r : Resource)

@[simp] theorem State.startFetch_ports : (s.startFetch r).ports = s.ports := (congrArg State.ports (s.startFetch_frame r) :)
@[simp] theorem State.startFetch_windows : (s.startFetch r).windows = s.windows := (congrArg State.windows (s.startFetch_frame r) :)
@[simp] theorem State.startFetch_discardInterval : (s.startFetch r).discardInterval = s.discardInterval := (congrArg State.discardInterval (s.startFetch_frame r) :)
@[simp] theorem State.startFetch_pwq : (s.startFetch r).pwq = s.pwq := (congrArg State.pwq (s.startFetch_frame r) :)
@[simp] theorem State.startFetch_lastSequence : (s.startFetch r).lastSequence = s.lastSequence := (congrArg State.lastSequence (s.startFetch_frame r) :)
@[simp] theorem State.startFetch_claim : (s.startFetch r).claim = s.claim := (congrArg State.claim (s.startFetch_frame r) :)
@[simp] theorem State.startFetch_mem : (s.startFetch r).mem = s.mem := (congrArg State.mem (s.startFetch_frame r) :)
@[simp] theorem State.startFetch_store : (s.startFetch r).store = s.store := (congrArg State.store (s.startFetch_frame r) :)
@[simp] theorem State.startFetch_lastPosition : (s.startFetch r).lastPosition = s.lastPosition := (congrArg State.lastPosition (s.startFetch_frame r) :)
@[simp] theorem State.startFetch_xbm : (s.startFetch r).xbm = s.xbm := (congrArg State.xbm (s.startFetch_frame r) :)
@[simp] theorem State.startFetch_resetInput : (s.startFetch r).resetInput = s.resetInput := (congrArg State.resetInput (s.startFetch_frame r) :)
@[simp] theorem State.startFetch_clearing : (s.startFetch r).clearing = s.clearing := (congrArg State.clearing (s.startFetch_frame r) :)
@[simp] theorem State.startFetch_busItems : (s.startFetch r).busItems = s.busItems := (congrArg State.busItems (s.startFetch_frame r) :)
@[simp] theorem State.startFetch_choices : (s.startFetch r).choices = s.choices := (congrArg State.choices (s.startFetch_frame r) :)
@[simp] theorem State.startFetch_pending : (s.startFetch r).pending = s.pending := (congrArg State.pending (s.startFetch_frame r) :)

end

theorem State.grantPosition_frame (s : State) (pos : Position) :
    s.grantPosition pos = { s with drt := (s.grantPosition pos).drt, pwq := (s.grantPosition pos).pwq, store := (s.grantPosition pos).store, lastPosition := (s.grantPosition pos).lastPosition } := by
  unfold State.grantPosition; simp only []; split
  · rfl
  · rw [State.startDrain_frame]
  · rw [State.startFetch_frame]

section

variable (s : State) (pos : Position)

@[simp] theorem State.grantPosition_ports : (s.grantPosition pos).ports = s.ports := (congrArg State.ports (s.grantPosition_frame pos) :)
@[simp] theorem State.grantPosition_windows : (s.grantPosition pos).windows = s.windows := (congrArg State.windows (s.grantPosition_frame pos) :)
@[simp] theorem State.grantPosition_discardInterval : (s.grantPosition pos).discardInterval = s.discardInterval := (congrArg State.discardInterval (s.grantPosition_frame pos) :)
@[simp] theorem State.grantPosition_lastSequence : (s.grantPosition pos).lastSequence = s.lastSequence := (congrArg State.lastSequence (s.grantPosition_frame pos) :)
@[simp] theorem State.grantPosition_claim : (s.grantPosition pos).claim = s.claim := (congrArg State.claim (s.grantPosition_frame pos) :)
@[simp] theorem State.grantPosition_mem : (s.grantPosition pos).mem = s.mem := (congrArg State.mem (s.grantPosition_frame pos) :)
@[simp] theorem State.grantPosition_xbm : (s.grantPosition pos).xbm = s.xbm := (congrArg State.xbm (s.grantPosition_frame pos) :)
@[simp] theorem State.grantPosition_resetInput : (s.grantPosition pos).resetInput = s.resetInput := (congrArg State.resetInput (s.grantPosition_frame pos) :)
@[simp] theorem State.grantPosition_clearing : (s.grantPosition pos).clearing = s.clearing := (congrArg State.clearing (s.grantPosition_frame pos) :)
@[simp] theorem State.grantPosition_busItems : (s.grantPosition pos).busItems = s.busItems := (congrArg State.busItems (s.grantPosition_frame pos) :)
@[simp] theorem State.grantPosition_choices : (s.grantPosition pos).choices = s.choices := (congrArg State.choices (s.grantPosition_frame pos) :)
@[simp] theorem State.grantPosition_pending : (s.grantPosition pos).pending = s.pending := (congrArg State.pending (s.grantPosition_frame pos) :)

end

theorem State.grantStore_frame (s : State) :
    s.grantStore = { s with drt := s.grantStore.drt, pwq := s.grantStore.pwq, store := s.grantStore.store, lastPosition := s.grantStore.lastPosition } := by
  unfold State.grantStore; split
  · rfl
  · split
    · exact State.grantPosition_frame ..
    · rfl

section

variable (s : State)

@[simp] theorem State.grantStore_ports : s.grantStore.ports = s.ports := (congrArg State.ports (s.grantStore_frame) :)
@[simp] theorem State.grantStore_windows : s.grantStore.windows = s.windows := (congrArg State.windows (s.grantStore_frame) :)
@[simp] theorem State.grantStore_discardInterval : s.grantStore.discardInterval = s.discardInterval := (congrArg State.discardInterval (s.grantStore_frame) :)
@[simp] theorem State.grantStore_lastSequence : s.grantStore.lastSequence = s.lastSequence := (congrArg State.lastSequence (s.grantStore_frame) :)
@[simp] theorem State.grantStore_claim : s.grantStore.claim = s.claim := (congrArg State.claim (s.grantStore_frame) :)
@[simp] theorem State.grantStore_mem : s.grantStore.mem = s.mem := (congrArg State.mem (s.grantStore_frame) :)
@[simp] theorem State.grantStore_xbm : s.grantStore.xbm = s.xbm := (congrArg State.xbm (s.grantStore_frame) :)
@[simp] theorem State.grantStore_resetInput : s.grantStore.resetInput = s.resetInput := (congrArg State.resetInput (s.grantStore_frame) :)
@[simp] theorem State.grantStore_clearing : s.grantStore.clearing = s.clearing := (congrArg State.clearing (s.grantStore_frame) :)
@[simp] theorem State.grantStore_busItems : s.grantStore.busItems = s.busItems := (congrArg State.busItems (s.grantStore_frame) :)
@[simp] theorem State.grantStore_choices : s.grantStore.choices = s.choices := (congrArg State.choices (s.grantStore_frame) :)
@[simp] theorem State.grantStore_pending : s.grantStore.pending = s.pending := (congrArg State.pending (s.grantStore_frame) :)

end

theorem State.grantStream_frame (s : State) (stream : Stream) :
    s.grantStream stream = { s with drt := (s.grantStream stream).drt, pwq := (s.grantStream stream).pwq, xbm := (s.grantStream stream).xbm, busItems := (s.grantStream stream).busItems } := by
  unfold State.grantStream; split
  · split
    · rw [State.startDrain_frame]; rfl
    · rfl
  · split
    · rw [State.startFetch_frame]; rfl
    · rfl

section

variable (s : State) (stream : Stream)

@[simp] theorem State.grantStream_ports : (s.grantStream stream).ports = s.ports := (congrArg State.ports (s.grantStream_frame stream) :)
@[simp] theorem State.grantStream_windows : (s.grantStream stream).windows = s.windows := (congrArg State.windows (s.grantStream_frame stream) :)
@[simp] theorem State.grantStream_discardInterval : (s.grantStream stream).discardInterval = s.discardInterval := (congrArg State.discardInterval (s.grantStream_frame stream) :)
@[simp] theorem State.grantStream_lastSequence : (s.grantStream stream).lastSequence = s.lastSequence := (congrArg State.lastSequence (s.grantStream_frame stream) :)
@[simp] theorem State.grantStream_claim : (s.grantStream stream).claim = s.claim := (congrArg State.claim (s.grantStream_frame stream) :)
@[simp] theorem State.grantStream_mem : (s.grantStream stream).mem = s.mem := (congrArg State.mem (s.grantStream_frame stream) :)
@[simp] theorem State.grantStream_store : (s.grantStream stream).store = s.store := (congrArg State.store (s.grantStream_frame stream) :)
@[simp] theorem State.grantStream_lastPosition : (s.grantStream stream).lastPosition = s.lastPosition := (congrArg State.lastPosition (s.grantStream_frame stream) :)
@[simp] theorem State.grantStream_resetInput : (s.grantStream stream).resetInput = s.resetInput := (congrArg State.resetInput (s.grantStream_frame stream) :)
@[simp] theorem State.grantStream_clearing : (s.grantStream stream).clearing = s.clearing := (congrArg State.clearing (s.grantStream_frame stream) :)
@[simp] theorem State.grantStream_choices : (s.grantStream stream).choices = s.choices := (congrArg State.choices (s.grantStream_frame stream) :)
@[simp] theorem State.grantStream_pending : (s.grantStream stream).pending = s.pending := (congrArg State.pending (s.grantStream_frame stream) :)

end

theorem State.grantBus_frame (s : State) :
    s.grantBus = { s with drt := s.grantBus.drt, pwq := s.grantBus.pwq, xbm := s.grantBus.xbm, busItems := s.grantBus.busItems } := by
  unfold State.grantBus; split
  · split
    · exact State.grantStream_frame ..
    · rfl
  · rfl

section

variable (s : State)

@[simp] theorem State.grantBus_ports : s.grantBus.ports = s.ports := (congrArg State.ports (s.grantBus_frame) :)
@[simp] theorem State.grantBus_windows : s.grantBus.windows = s.windows := (congrArg State.windows (s.grantBus_frame) :)
@[simp] theorem State.grantBus_discardInterval : s.grantBus.discardInterval = s.discardInterval := (congrArg State.discardInterval (s.grantBus_frame) :)
@[simp] theorem State.grantBus_lastSequence : s.grantBus.lastSequence = s.lastSequence := (congrArg State.lastSequence (s.grantBus_frame) :)
@[simp] theorem State.grantBus_claim : s.grantBus.claim = s.claim := (congrArg State.claim (s.grantBus_frame) :)
@[simp] theorem State.grantBus_mem : s.grantBus.mem = s.mem := (congrArg State.mem (s.grantBus_frame) :)
@[simp] theorem State.grantBus_store : s.grantBus.store = s.store := (congrArg State.store (s.grantBus_frame) :)
@[simp] theorem State.grantBus_lastPosition : s.grantBus.lastPosition = s.lastPosition := (congrArg State.lastPosition (s.grantBus_frame) :)
@[simp] theorem State.grantBus_resetInput : s.grantBus.resetInput = s.resetInput := (congrArg State.resetInput (s.grantBus_frame) :)
@[simp] theorem State.grantBus_clearing : s.grantBus.clearing = s.clearing := (congrArg State.clearing (s.grantBus_frame) :)
@[simp] theorem State.grantBus_choices : s.grantBus.choices = s.choices := (congrArg State.choices (s.grantBus_frame) :)
@[simp] theorem State.grantBus_pending : s.grantBus.pending = s.pending := (congrArg State.pending (s.grantBus_frame) :)

end

theorem State.settle_frame (s : State) :
    s.settle = { s with drt := s.settle.drt, pwq := s.settle.pwq, store := s.settle.store, lastPosition := s.settle.lastPosition, xbm := s.settle.xbm, busItems := s.settle.busItems } := by
  unfold State.settle; rw [State.grantBus_frame, State.grantStore_frame]

section

variable (s : State)

@[simp] theorem State.settle_ports : s.settle.ports = s.ports := (congrArg State.ports (s.settle_frame) :)
@[simp] theorem State.settle_windows : s.settle.windows = s.windows := (congrArg State.windows (s.settle_frame) :)
@[simp] theorem State.settle_discardInterval : s.settle.discardInterval = s.discardInterval := (congrArg State.discardInterval (s.settle_frame) :)
@[simp] theorem State.settle_lastSequence : s.settle.lastSequence = s.lastSequence := (congrArg State.lastSequence (s.settle_frame) :)
@[simp] theorem State.settle_claim : s.settle.claim = s.claim := (congrArg State.claim (s.settle_frame) :)
@[simp] theorem State.settle_mem : s.settle.mem = s.mem := (congrArg State.mem (s.settle_frame) :)
@[simp] theorem State.settle_resetInput : s.settle.resetInput = s.resetInput := (congrArg State.resetInput (s.settle_frame) :)
@[simp] theorem State.settle_clearing : s.settle.clearing = s.clearing := (congrArg State.clearing (s.settle_frame) :)
@[simp] theorem State.settle_choices : s.settle.choices = s.choices := (congrArg State.choices (s.settle_frame) :)
@[simp] theorem State.settle_pending : s.settle.pending = s.pending := (congrArg State.pending (s.settle_frame) :)

end

theorem State.grantsBefore_frame (s : State) (lost : Grantee → Bool) (first : Nat → Bool) :
    s.grantsBefore lost first = { s with drt := (s.grantsBefore lost first).drt, pwq := (s.grantsBefore lost first).pwq, store := (s.grantsBefore lost first).store, lastPosition := (s.grantsBefore lost first).lastPosition, xbm := (s.grantsBefore lost first).xbm, busItems := (s.grantsBefore lost first).busItems, choices := (s.grantsBefore lost first).choices } := by
  apply State.eq_of_fields
  · unfold State.grantsBefore State.grantBefore; repeat' split
    all_goals simp
  · unfold State.grantsBefore State.grantBefore; repeat' split
    all_goals simp
  · with_reducible rfl
  · unfold State.grantsBefore State.grantBefore; repeat' split
    all_goals simp
  · with_reducible rfl
  · unfold State.grantsBefore State.grantBefore; repeat' split
    all_goals simp
  · unfold State.grantsBefore State.grantBefore; repeat' split
    all_goals simp
  · unfold State.grantsBefore State.grantBefore; repeat' split
    all_goals simp
  · with_reducible rfl
  · with_reducible rfl
  · with_reducible rfl
  · unfold State.grantsBefore State.grantBefore; repeat' split
    all_goals simp
  · unfold State.grantsBefore State.grantBefore; repeat' split
    all_goals simp
  · with_reducible rfl
  · with_reducible rfl
  · unfold State.grantsBefore State.grantBefore; repeat' split
    all_goals simp

section

variable (s : State) (lost : Grantee → Bool) (first : Nat → Bool)

@[simp] theorem State.grantsBefore_ports : (s.grantsBefore lost first).ports = s.ports := (congrArg State.ports (s.grantsBefore_frame lost first) :)
@[simp] theorem State.grantsBefore_windows : (s.grantsBefore lost first).windows = s.windows := (congrArg State.windows (s.grantsBefore_frame lost first) :)
@[simp] theorem State.grantsBefore_discardInterval : (s.grantsBefore lost first).discardInterval = s.discardInterval := (congrArg State.discardInterval (s.grantsBefore_frame lost first) :)
@[simp] theorem State.grantsBefore_lastSequence : (s.grantsBefore lost first).lastSequence = s.lastSequence := (congrArg State.lastSequence (s.grantsBefore_frame lost first) :)
@[simp] theorem State.grantsBefore_claim : (s.grantsBefore lost first).claim = s.claim := (congrArg State.claim (s.grantsBefore_frame lost first) :)
@[simp] theorem State.grantsBefore_mem : (s.grantsBefore lost first).mem = s.mem := (congrArg State.mem (s.grantsBefore_frame lost first) :)
@[simp] theorem State.grantsBefore_resetInput : (s.grantsBefore lost first).resetInput = s.resetInput := (congrArg State.resetInput (s.grantsBefore_frame lost first) :)
@[simp] theorem State.grantsBefore_clearing : (s.grantsBefore lost first).clearing = s.clearing := (congrArg State.clearing (s.grantsBefore_frame lost first) :)
@[simp] theorem State.grantsBefore_pending : (s.grantsBefore lost first).pending = s.pending := (congrArg State.pending (s.grantsBefore_frame lost first) :)

end

theorem State.grantsBeforeLinkDown_frame (s : State) (p : PortId) :
    s.grantsBeforeLinkDown p = { s with drt := (s.grantsBeforeLinkDown p).drt, pwq := (s.grantsBeforeLinkDown p).pwq, store := (s.grantsBeforeLinkDown p).store, lastPosition := (s.grantsBeforeLinkDown p).lastPosition, xbm := (s.grantsBeforeLinkDown p).xbm, busItems := (s.grantsBeforeLinkDown p).busItems, choices := (s.grantsBeforeLinkDown p).choices } := by
  unfold State.grantsBeforeLinkDown; split <;> exact State.grantsBefore_frame ..

section

variable (s : State) (p : PortId)

@[simp] theorem State.grantsBeforeLinkDown_ports : (s.grantsBeforeLinkDown p).ports = s.ports := (congrArg State.ports (s.grantsBeforeLinkDown_frame p) :)
@[simp] theorem State.grantsBeforeLinkDown_windows : (s.grantsBeforeLinkDown p).windows = s.windows := (congrArg State.windows (s.grantsBeforeLinkDown_frame p) :)
@[simp] theorem State.grantsBeforeLinkDown_discardInterval : (s.grantsBeforeLinkDown p).discardInterval = s.discardInterval := (congrArg State.discardInterval (s.grantsBeforeLinkDown_frame p) :)
@[simp] theorem State.grantsBeforeLinkDown_lastSequence : (s.grantsBeforeLinkDown p).lastSequence = s.lastSequence := (congrArg State.lastSequence (s.grantsBeforeLinkDown_frame p) :)
@[simp] theorem State.grantsBeforeLinkDown_claim : (s.grantsBeforeLinkDown p).claim = s.claim := (congrArg State.claim (s.grantsBeforeLinkDown_frame p) :)
@[simp] theorem State.grantsBeforeLinkDown_mem : (s.grantsBeforeLinkDown p).mem = s.mem := (congrArg State.mem (s.grantsBeforeLinkDown_frame p) :)
@[simp] theorem State.grantsBeforeLinkDown_resetInput : (s.grantsBeforeLinkDown p).resetInput = s.resetInput := (congrArg State.resetInput (s.grantsBeforeLinkDown_frame p) :)
@[simp] theorem State.grantsBeforeLinkDown_clearing : (s.grantsBeforeLinkDown p).clearing = s.clearing := (congrArg State.clearing (s.grantsBeforeLinkDown_frame p) :)
@[simp] theorem State.grantsBeforeLinkDown_pending : (s.grantsBeforeLinkDown p).pending = s.pending := (congrArg State.pending (s.grantsBeforeLinkDown_frame p) :)

end

theorem State.atOnce_frame (s : State) :
    s.atOnce = { s with ports := s.atOnce.ports, drt := s.atOnce.drt, pwq := s.atOnce.pwq, store := s.atOnce.store, lastPosition := s.atOnce.lastPosition, xbm := s.atOnce.xbm, busItems := s.atOnce.busItems } := by
  unfold State.atOnce; rw [State.settle_frame]; rfl

section

variable (s : State)

@[simp] theorem State.atOnce_windows : s.atOnce.windows = s.windows := (congrArg State.windows (s.atOnce_frame) :)
@[simp] theorem State.atOnce_discardInterval : s.atOnce.discardInterval = s.discardInterval := (congrArg State.discardInterval (s.atOnce_frame) :)
@[simp] theorem State.atOnce_lastSequence : s.atOnce.lastSequence = s.lastSequence := (congrArg State.lastSequence (s.atOnce_frame) :)
@[simp] theorem State.atOnce_claim : s.atOnce.claim = s.claim := (congrArg State.claim (s.atOnce_frame) :)
@[simp] theorem State.atOnce_mem : s.atOnce.mem = s.mem := (congrArg State.mem (s.atOnce_frame) :)
@[simp] theorem State.atOnce_resetInput : s.atOnce.resetInput = s.resetInput := (congrArg State.resetInput (s.atOnce_frame) :)
@[simp] theorem State.atOnce_clearing : s.atOnce.clearing = s.clearing := (congrArg State.clearing (s.atOnce_frame) :)
@[simp] theorem State.atOnce_choices : s.atOnce.choices = s.choices := (congrArg State.choices (s.atOnce_frame) :)
@[simp] theorem State.atOnce_pending : s.atOnce.pending = s.pending := (congrArg State.pending (s.atOnce_frame) :)

end

/-! ## Ports and windows at a grant -/

section

variable (s : State) (q : PortId) (w : WindowId)

@[simp] theorem State.port_settle : s.settle.port q = s.port q := by simp [State.port]

@[simp] theorem State.window_settle : s.settle.window w = s.window w := by simp [State.window]

@[simp] theorem State.port_grantsBefore (lost : Grantee → Bool) (first : Nat → Bool) :
    (s.grantsBefore lost first).port q = s.port q := by simp [State.port]

@[simp] theorem State.window_grantsBefore (lost : Grantee → Bool) (first : Nat → Bool) :
    (s.grantsBefore lost first).window w = s.window w := by simp [State.window]

@[simp] theorem State.online_settle : s.settle.online q = s.online q := by simp [State.online]

@[simp] theorem State.inReset_settle : s.settle.inReset = s.inReset := by simp [State.inReset]

@[simp] theorem State.holds_settle : s.settle.holds q = s.holds q := by simp [State.holds]

@[simp] theorem State.frameToTake_settle : s.settle.frameToTake q = s.frameToTake q := by simp [State.frameToTake]

end

/-! ## When a grant is made -/

/-- A grant at the store is to a position that requests, with the store FREE and device reset not in force. -/
theorem State.grantStore_cases (s : State) :
    s.grantStore = s ∨ ∃ pos, s.store = none ∧ s.inReset = false ∧ s.positionRequests pos = true ∧
      (cycleAfter s.lastPosition).find? s.positionRequests = some pos ∧ s.grantStore = s.grantPosition pos := by
  unfold State.grantStore
  split <;> rename_i h
  · exact Or.inl rfl
  · split <;> rename_i hp
    · simp only [Bool.or_eq_true, not_or] at h
      exact Or.inr ⟨_, by simpa using h.1, by simpa using h.2, List.find?_some hp, hp, rfl⟩
    · exact Or.inl rfl

/-- A grant at the bus is to a stream that requests, with the bus IDLE. -/
theorem State.grantBus_cases (s : State) :
    s.grantBus = s ∨ ∃ stream, s.xbm.bus = .idle ∧
      chooseStream (s.drainRequests .xb) (s.fetchRequests .xb) s.xbm.lastStream = some stream ∧
      s.grantBus = s.grantStream stream := by
  unfold State.grantBus
  split <;> rename_i h
  · split <;> rename_i hs
    · exact Or.inr ⟨_, h, hs, rfl⟩
    · exact Or.inl rfl
  · exact Or.inl rfl

/-- A stream that fetches has an eligible entry to fetch. -/
theorem State.eligible_of_fetchRequests {s : State} {r : Resource} (h : s.fetchRequests r = true) :
    ∃ e, s.drt.find? (Entry.eligible r) = some e := by
  simp only [State.fetchRequests, Bool.and_eq_true, List.any_eq_true] at h
  obtain ⟨⟨e, he, hel⟩, -⟩ := h
  exact Option.isSome_iff_exists.mp (List.find?_isSome.mpr ⟨e, he, hel⟩)

/-- A position that requests has something for the grant to go to. -/
theorem State.positionGrantee_isSome {s : State} {pos : Position} (h : s.positionRequests pos = true) :
    (s.positionGrantee pos).isSome = true := by
  cases pos with
  | port p => rfl
  | drain => rfl
  | fetch =>
    obtain ⟨e, he⟩ := State.eligible_of_fetchRequests h
    simp [State.positionGrantee, he]

/-- With no grant due at the store, none is made. -/
theorem State.grantStore_of_none {s : State} (h : s.storeGrantee = none) : s.grantStore = s := by
  rcases s.grantStore_cases with h' | ⟨pos, h1, h2, h3, h4, -⟩
  · exact h'
  · have := State.positionGrantee_isSome h3
    simp [State.storeGrantee, h1, h2, h4] at h
    simp [h] at this

/-- With no grant due at the bus, none is made. -/
theorem State.grantBus_of_none {s : State} (h : s.busGrantee = none) : s.grantBus = s := by
  rcases s.grantBus_cases with h' | ⟨stream, h1, h2, -⟩
  · exact h'
  · simp only [State.busGrantee, h1, h2, Option.bind_some] at h
    cases stream with
    | drain => simp [State.streamGrantee] at h
    | fetch =>
      have hf : s.fetchRequests .xb = true := by
        revert h2
        cases s.drainRequests .xb <;> cases s.fetchRequests .xb <;> cases s.xbm.lastStream <;> simp [chooseStream]
      obtain ⟨e, he⟩ := State.eligible_of_fetchRequests hf
      simp [State.streamGrantee, he] at h

/-- Where every grant is made, none is. -/
theorem State.settle_of_granted {s : State} (h : s.granted) : s.settle = s := by
  rw [State.settle, State.grantStore_of_none h.1, State.grantBus_of_none h.2]

/-- Where every grant is made, an event finds none to come before. -/
theorem State.grantsBefore_of_granted {s : State} (h : s.granted) (lost : Grantee → Bool) (first : Nat → Bool) :
    s.grantsBefore lost first = s := by
  simp [State.grantsBefore, State.grantBefore, h.1, h.2, State.grantStore_of_none h.1, State.grantBus_of_none h.2]

/-- Before an event that takes nothing away, every grant that is due is made. -/
theorem State.grantsBefore_none (s : State) (first : Nat → Bool) :
    s.grantsBefore (fun _ => false) first = s.settle := by
  have h : ∀ o : Option Grantee, o.any (fun _ => false) = false := fun o => by cases o <;> rfl
  simp [State.grantsBefore, State.grantBefore, State.settle, h]

/-- A store that has been granted has no grant due. -/
theorem State.storeGrantee_grantStore (s : State) : s.grantStore.storeGrantee = none := by
  have h : s.storeGrantee = none ∨ s.grantStore.store.isSome = true := by
    rcases s.grantStore_cases with h | ⟨pos, -, -, -, -, h⟩
    · unfold State.storeGrantee
      by_cases hb : (s.store.isSome || s.inReset) = true
      · exact .inl (if_pos hb)
      · left
        rw [if_neg hb]
        cases hp : (cycleAfter s.lastPosition).find? s.positionRequests with
        | none => rfl
        | some pos =>
          have hg : s.grantStore = s.grantPosition pos := by simp only [State.grantStore, if_neg hb, hp]
          have hs : (s.grantPosition pos).store = some pos := by
            cases pos <;> simp [State.grantPosition]
          rw [← hg, h] at hs
          simp [hs] at hb
    · refine .inr ?_
      rw [h]
      cases pos <;> simp [State.grantPosition]
  rcases h with h | h
  · rw [State.grantStore_of_none h, h]
  · exact if_pos (by simp [h])

/-- A bus that has been granted has no grant due. -/
theorem State.busGrantee_grantBus (s : State) : s.grantBus.busGrantee = none := by
  rcases s.grantBus_cases with h | ⟨stream, h1, h2, h⟩
  · rw [h]
    unfold State.busGrantee
    split
    · rename_i hb
      cases hc : chooseStream (s.drainRequests .xb) (s.fetchRequests .xb) s.xbm.lastStream with
      | none => rfl
      | some stream =>
        have hg : s.grantBus = s.grantStream stream := by simp only [State.grantBus, hb, hc]
        have hs := congrArg (fun t : State => t.xbm.bus) (hg.symm.trans h)
        cases stream with
        | drain =>
          simp only [State.grantStream] at hs
          split at hs
          · simp [State.startTransaction, hb] at hs
          · rename_i hq
            have : s.drainRequests .xb = false := by simp [State.drainRequests, hq]
            rw [this] at hc
            cases hf : s.fetchRequests .xb <;> cases s.xbm.lastStream <;> simp [chooseStream, hf] at hc
        | fetch =>
          simp only [State.grantStream] at hs
          split at hs
          · simp [State.startTransaction, hb] at hs
          · rename_i hq
            simp [State.streamGrantee, hq]
    · rfl
  · have hq : s.grantBus.xbm.bus ≠ .idle ∨ s.busGrantee = none ∧ s.grantBus = s := by
      rw [h]
      cases stream with
      | drain =>
        simp only [State.grantStream]
        split
        · exact .inl (by simp [State.startTransaction])
        · rename_i hn
          have : s.drainRequests .xb = false := by simp [State.drainRequests, hn]
          rw [this] at h2
          cases hf : s.fetchRequests .xb <;> cases s.xbm.lastStream <;> simp [chooseStream, hf] at h2
      | fetch =>
        simp only [State.grantStream]
        split
        · exact .inl (by simp [State.startTransaction])
        · rename_i hn
          exact .inr ⟨by simp [State.busGrantee, h1, h2, State.streamGrantee, hn], rfl⟩
    rcases hq with hq | ⟨hq, he⟩
    · unfold State.busGrantee
      split
      · exact absurd ‹_› hq
      · rfl
    · rw [he, hq]

/-- A fetch that starts makes no entry request at either resource. -/
theorem State.fetchRequests_setPhase {s : State} {t : Tag} {r : Resource}
    (h : (s.setPhase t (.fetching none)).fetchRequests r = true) : s.fetchRequests r = true := by
  simp only [State.fetchRequests, State.setPhase, List.any_map, Bool.and_eq_true, List.any_eq_true,
    Bool.not_eq_true', List.any_eq_false] at h ⊢
  obtain ⟨⟨e, he, hel⟩, hno⟩ := h
  refine ⟨⟨e, he, ?_⟩, fun x hx hocc => hno x hx ?_⟩
  · by_cases ht : e.tag = t <;> simp [ht, Entry.eligible] at hel ⊢
    exact hel
  · by_cases ht : x.tag = t
    · simp only [Function.comp_apply, ht, if_true, Entry.occupies, Bool.and_eq_true, and_true] at hocc ⊢
      exact hocc.1
    · simpa [ht] using hocc

/-- A grant at the bus makes no position request the store. -/
theorem State.positionRequests_grantBus {s : State} {pos : Position} (h : s.grantBus.positionRequests pos = true) :
    s.positionRequests pos = true := by
  rcases s.grantBus_cases with h' | ⟨stream, -, -, h'⟩
  · rwa [h'] at h
  · rw [h'] at h
    cases pos with
    | port p => simpa [State.positionRequests, State.port] using h
    | drain =>
      cases stream <;> simp only [State.positionRequests, State.grantStream] at h ⊢ <;> split at h
      · simp [State.drainRequests, State.startTransaction, State.startDrain, *] at h
      · exact h
      · simpa [State.drainRequests, State.startTransaction] using h
      · exact h
    | fetch =>
      cases stream <;> simp only [State.positionRequests, State.grantStream] at h ⊢ <;> split at h
      · simpa [State.fetchRequests, State.startTransaction] using h
      · exact h
      · rename_i e he
        rw [State.startFetch, he] at h
        exact State.fetchRequests_setPhase h
      · exact h

/-- The grants leave none due. -/
theorem State.granted_settle (s : State) : s.settle.granted := by
  refine ⟨?_, State.busGrantee_grantBus _⟩
  have h := s.storeGrantee_grantStore
  unfold State.settle State.storeGrantee
  rw [State.grantBus_store, State.grantBus_lastPosition, show s.grantStore.grantBus.inReset = s.grantStore.inReset by
    simp [State.inReset]]
  split
  · rfl
  · rename_i hb
    cases hf : (cycleAfter s.grantStore.lastPosition).find? s.grantStore.grantBus.positionRequests with
    | none => rfl
    | some pos =>
      exfalso
      have hr := State.positionRequests_grantBus (List.find?_some hf)
      rw [State.storeGrantee, if_neg hb] at h
      cases hg : (cycleAfter s.grantStore.lastPosition).find? s.grantStore.positionRequests with
      | none => exact List.find?_eq_none.mp hg pos (List.mem_of_find?_eq_some hf) hr
      | some pos' =>
        have := State.positionGrantee_isSome (List.find?_some hg)
        simp only [hg, Option.bind_some] at h
        simp [h] at this

@[simp] theorem State.settle_settle (s : State) : s.settle.settle = s.settle :=
  State.settle_of_granted s.granted_settle

/-- What happens at once changes nothing where it has happened. -/
theorem State.atOnce_of_atRest {s : State} (h : s.atRest) : s.atOnce = s := by
  rw [State.atOnce, State.sendAll_of_allSent h.1, State.settle_of_granted h.2]

end Sys2Proof.Machine
end

