-- ==== Sys2Proof/Laws/Memory.lean ====
section
/-! SUPPORT. Every operation on the contents of the local store keeps their canonical form, and the contents after reset
have it. -/

namespace Sys2Proof.Machine

theorem Memory.wfFrom_cons {low k : Nat} {v : Byte} {rest : Memory} :
    Memory.wfFrom low ((k, v) :: rest) = true ↔
      low ≤ k ∧ k < Config.storeSize ∧ v ≠ Memory.blank ∧ Memory.wfFrom (k + 1) rest = true := by
  simp [Memory.wfFrom, and_assoc]

/-- A list in canonical form from an offset on is in canonical form from any lower one. -/
theorem Memory.wfFrom_mono {low low' : Nat} {m : Memory} (h : low' ≤ low) (hm : Memory.wfFrom low m = true) :
    Memory.wfFrom low' m = true := by
  cases m with
  | nil => rfl
  | cons c rest =>
    rw [Memory.wfFrom_cons] at hm ⊢
    exact ⟨le_trans h hm.1, hm.2⟩

theorem Memory.wfFrom_memCons {low a : Nat} {b : Byte} {rest : Memory} (hl : low ≤ a) (ha : a < Config.storeSize)
    (h : Memory.wfFrom (a + 1) rest = true) : Memory.wfFrom low (Memory.cons a b rest) = true := by
  unfold Memory.cons
  split
  · exact Memory.wfFrom_mono (by omega) h
  · exact Memory.wfFrom_cons.2 ⟨hl, ha, ‹_›, h⟩

theorem Memory.wfFrom_write {low a : Nat} {b : Byte} {m : Memory} (hl : low ≤ a) (ha : a < Config.storeSize)
    (h : Memory.wfFrom low m = true) : Memory.wfFrom low (m.write a b) = true := by
  induction m generalizing low with
  | nil => exact Memory.wfFrom_memCons hl ha rfl
  | cons c rest ih =>
    obtain ⟨k, v⟩ := c
    have hc := Memory.wfFrom_cons.1 h
    simp only [Memory.write]
    split
    · exact Memory.wfFrom_memCons hl ha (Memory.wfFrom_cons.2 ⟨by omega, hc.2⟩)
    · split
      · subst a; exact Memory.wfFrom_memCons hl ha hc.2.2.2
      · exact Memory.wfFrom_cons.2 ⟨hc.1, hc.2.1, hc.2.2.1, ih (by omega) hc.2.2.2⟩

/-- Writing one byte inside the store keeps the canonical form. -/
theorem Memory.wf_write {m : Memory} {a : Nat} (b : Byte) (ha : a < Config.storeSize) (h : m.wf = true) :
    (m.write a b).wf = true :=
  Memory.wfFrom_write (Nat.zero_le a) ha h

/-- Writing a range inside the store keeps the canonical form. -/
theorem Memory.wf_writeBytes {m : Memory} {a : Nat} {data : List Byte} (ha : a + data.length ≤ Config.storeSize)
    (h : m.wf = true) : (m.writeBytes a data).wf = true := by
  induction data generalizing m a with
  | nil => exact h
  | cons b rest ih =>
    simp only [List.length_cons] at ha
    exact ih (by omega) (Memory.wf_write b (by omega) h)

/-- A compare-and-swap inside the store keeps the canonical form. -/
theorem Memory.wf_swappedMemory {m : Memory} {dest : Nat} {compareValue swapValue : List Byte}
    (hd : dest + 8 ≤ Config.storeSize) (h : m.wf = true) :
    (swappedMemory m dest compareValue swapValue).wf = true := by
  unfold swappedMemory
  split
  · exact Memory.wf_writeBytes (by simp only [List.length_take]; omega) h
  · exact h

theorem State.reset_storeCanonical : State.reset.storeCanonical := rfl

end Sys2Proof.Machine
end

