-- ==== Sys2Proof/Laws/Taking.lean ====
section
/-! SUPPORT. What the taking of a frame and the decision of a control write come to, once for every row; and the
operands of the writes that name a window, a tag or a port. -/

namespace Sys2Proof.Machine

/-- The frame a port takes is decided by its row's own rule. -/
theorem State.take_of_takes {s : State} {p : PortId} {row : TakeRow} {f : Frame} (h : s.takes p row f)
    (decide : State → Frame → State) (lost : State → Frame → Grantee → Bool := fun _ _ _ => false) :
    s.take p row decide lost = decide s f := by
  simp [State.take, State.sendAll_of_allSent h.2.2.1, h.1, h.2.1, State.grantsBefore_of_granted h.2.2.2]

/-- A taking lets every response that has been decided leave first. -/
theorem State.take_sendAll (s : State) (p : PortId) (row : TakeRow) (decide : State → Frame → State)
    (lost : State → Frame → Grantee → Bool := fun _ _ _ => false) :
    s.sendAll.take p row decide lost = s.take p row decide lost := by
  simp [State.take]

/-- All that a taking can do, with the decided responses gone: the rule of its row on the frame taken, with the grants made
that come before it; or nothing but the grants. -/
theorem State.take_cases (s : State) (p : PortId) (row : TakeRow) (decide : State → Frame → State)
    (lost : State → Frame → Grantee → Bool := fun _ _ _ => false) :
    (∃ f, s.sendAll.frameToTake p = some f ∧ f.row = row ∧
      s.take p row decide lost = decide (s.sendAll.grantsBefore (lost s.sendAll f)) f) ∨
      ((∀ f, s.sendAll.frameToTake p = some f → f.row ≠ row) ∧ s.take p row decide lost = s.sendAll.settle) := by
  unfold State.take
  simp only []
  split
  · rename_i f hf
    by_cases hr : f.row = row
    · exact Or.inl ⟨f, hf, hr, if_pos hr⟩
    · exact Or.inr ⟨fun g hg => Option.some.inj (hf.symm.trans hg) ▸ hr, if_neg hr⟩
  · rename_i hf
    exact Or.inr ⟨fun f h => absurd (hf.symm.trans h) (by simp), rfl⟩

/-- A port that takes a frame has its link up and no request in hand, and the frame is its oldest. -/
theorem State.takes_spec {s : State} {p : PortId} {row : TakeRow} {f : Frame} (h : s.takes p row f) :
    (s.port p).state ≠ .offline ∧ (s.port p).inHand = none ∧ (s.port p).buffer.head? = some f ∧ f.row = row := by
  obtain ⟨h, hr, -⟩ := h
  simp only [State.frameToTake] at h
  split at h
  · rename_i hc
    simp at hc
    exact ⟨hc.1, hc.2, h, hr⟩
  · cases h

/-- A control write from an ONLINE port, of the register's width, with the claim where it is required, is decided by
the register's own rule. -/
theorem State.take_controlWrite {s : State} {p : PortId} {row : TakeRow} {value : List Byte}
    (h : s.takesWrite p row value) {r : Reg} (hr : r.width = 8) (hw : r.writable = true)
    (hc : r.claimRequired = false ∨ s.holds p = true) (rule : State → List Byte → Verdict) :
    s.take p row (fun s f => s.controlWrite p r (f.payload .ctlWrite) (rule s (f.payload .ctlWrite))) =
      s.conclude p (rule s value) := by
  obtain ⟨f, h1, h2, h3, h4⟩ := h
  rw [State.take_of_takes h1, h3]
  simp only [State.controlWrite, State.writeRefusal, h2, hw, hr, h4]
  rcases hc with hc | hc <;> simp [hc]

@[simp] theorem State.conclude_done (s t : State) (p : PortId) : s.conclude p (.done t) = t.answer p (.done none) := rfl

@[simp] theorem State.conclude_refused (s : State) (p : PortId) (r : RefusedReason) :
    s.conclude p (.refused r) = s.answer p (.refused r) := rfl

theorem windowIndex_eq {value : List Byte} {w : WindowId} (h : bytesAt value 0 1 = w.val) :
    windowIndex value = some w := by
  simp only [windowIndex, h, w.isLt, dif_pos]

theorem windowIndex_none {value : List Byte} (h : 15 < bytesAt value 0 1) : windowIndex value = none :=
  dif_neg (by omega)

theorem targetPort_eq {value : List Byte} {t : PortId} (h : bytesAt value 0 1 = t.val) :
    targetPort value = some t := by
  simp only [targetPort, h, t.isLt, dif_pos]

theorem targetPort_none {value : List Byte} (h : 3 < bytesAt value 0 1) : targetPort value = none :=
  dif_neg (by omega)

theorem selectedTag_eq {value : List Byte} {t : Tag} (h : bytesAt value 0 1 = t.val) :
    selectedTag value = some t := by
  simp only [selectedTag, h, t.isLt, dif_pos]

theorem selectedTag_none {value : List Byte} (h : 13 < bytesAt value 0 1) : selectedTag value = none :=
  dif_neg (by omega)

theorem mem_windowIds (w : WindowId) : w ∈ windowIds := by
  revert w; decide

theorem mem_tagIds (t : Tag) : t ∈ tagIds := by
  revert t; decide

theorem mem_positionCycle (pos : Position) : pos ∈ positionCycle := by
  rcases pos with p | _ | _
  · revert p; decide
  · decide
  · decide

/-- The cycle from any position holds every position. -/
theorem mem_cycleAfter (last pos : Position) : pos ∈ cycleAfter last := by
  rw [cycleAfter, List.mem_append, or_comm, ← List.mem_append, List.take_append_drop]
  exact mem_positionCycle pos

end Sys2Proof.Machine
end

