-- ==== Sys2Proof/Laws/Ops.lean ====
section
/-! SUPPORT. For each shared operation, the fields of the state it can change: everything else is as it was. The frame of
an operation says it once, and its consequences field by field are rewriting lemmas. -/

namespace Sys2Proof.Machine

theorem State.resolve_frame (s : State) (p : PortId) :
    s.resolve p = { s with ports := (s.resolve p).ports, choices := (s.resolve p).choices } := by
  unfold State.resolve; split
  · split <;> rfl
  · rfl

section

variable (s : State) (p : PortId)

@[simp] theorem State.resolve_windows : (s.resolve p).windows = s.windows := (congrArg State.windows (s.resolve_frame p) :)
@[simp] theorem State.resolve_drt : (s.resolve p).drt = s.drt := (congrArg State.drt (s.resolve_frame p) :)
@[simp] theorem State.resolve_discardInterval : (s.resolve p).discardInterval = s.discardInterval := (congrArg State.discardInterval (s.resolve_frame p) :)
@[simp] theorem State.resolve_pwq : (s.resolve p).pwq = s.pwq := (congrArg State.pwq (s.resolve_frame p) :)
@[simp] theorem State.resolve_lastSequence : (s.resolve p).lastSequence = s.lastSequence := (congrArg State.lastSequence (s.resolve_frame p) :)
@[simp] theorem State.resolve_claim : (s.resolve p).claim = s.claim := (congrArg State.claim (s.resolve_frame p) :)
@[simp] theorem State.resolve_mem : (s.resolve p).mem = s.mem := (congrArg State.mem (s.resolve_frame p) :)
@[simp] theorem State.resolve_store : (s.resolve p).store = s.store := (congrArg State.store (s.resolve_frame p) :)
@[simp] theorem State.resolve_lastPosition : (s.resolve p).lastPosition = s.lastPosition := (congrArg State.lastPosition (s.resolve_frame p) :)
@[simp] theorem State.resolve_xbm : (s.resolve p).xbm = s.xbm := (congrArg State.xbm (s.resolve_frame p) :)
@[simp] theorem State.resolve_resetInput : (s.resolve p).resetInput = s.resetInput := (congrArg State.resetInput (s.resolve_frame p) :)
@[simp] theorem State.resolve_clearing : (s.resolve p).clearing = s.clearing := (congrArg State.clearing (s.resolve_frame p) :)
@[simp] theorem State.resolve_busItems : (s.resolve p).busItems = s.busItems := (congrArg State.busItems (s.resolve_frame p) :)
@[simp] theorem State.resolve_pending : (s.resolve p).pending = s.pending := (congrArg State.pending (s.resolve_frame p) :)

end

theorem State.endDraining_frame (s : State) (w : WindowId) :
    s.endDraining w = { s with ports := (s.endDraining w).ports, windows := (s.endDraining w).windows } := by
  unfold State.endDraining; split <;> rfl

section

variable (s : State) (w : WindowId)

@[simp] theorem State.endDraining_drt : (s.endDraining w).drt = s.drt := (congrArg State.drt (s.endDraining_frame w) :)
@[simp] theorem State.endDraining_discardInterval : (s.endDraining w).discardInterval = s.discardInterval := (congrArg State.discardInterval (s.endDraining_frame w) :)
@[simp] theorem State.endDraining_pwq : (s.endDraining w).pwq = s.pwq := (congrArg State.pwq (s.endDraining_frame w) :)
@[simp] theorem State.endDraining_lastSequence : (s.endDraining w).lastSequence = s.lastSequence := (congrArg State.lastSequence (s.endDraining_frame w) :)
@[simp] theorem State.endDraining_claim : (s.endDraining w).claim = s.claim := (congrArg State.claim (s.endDraining_frame w) :)
@[simp] theorem State.endDraining_mem : (s.endDraining w).mem = s.mem := (congrArg State.mem (s.endDraining_frame w) :)
@[simp] theorem State.endDraining_store : (s.endDraining w).store = s.store := (congrArg State.store (s.endDraining_frame w) :)
@[simp] theorem State.endDraining_lastPosition : (s.endDraining w).lastPosition = s.lastPosition := (congrArg State.lastPosition (s.endDraining_frame w) :)
@[simp] theorem State.endDraining_xbm : (s.endDraining w).xbm = s.xbm := (congrArg State.xbm (s.endDraining_frame w) :)
@[simp] theorem State.endDraining_resetInput : (s.endDraining w).resetInput = s.resetInput := (congrArg State.resetInput (s.endDraining_frame w) :)
@[simp] theorem State.endDraining_clearing : (s.endDraining w).clearing = s.clearing := (congrArg State.clearing (s.endDraining_frame w) :)
@[simp] theorem State.endDraining_busItems : (s.endDraining w).busItems = s.busItems := (congrArg State.busItems (s.endDraining_frame w) :)
@[simp] theorem State.endDraining_choices : (s.endDraining w).choices = s.choices := (congrArg State.choices (s.endDraining_frame w) :)
@[simp] theorem State.endDraining_pending : (s.endDraining w).pending = s.pending := (congrArg State.pending (s.endDraining_frame w) :)

end

theorem State.freeEntry_frame (s : State) (e : Entry) :
    s.freeEntry e = { s with ports := (s.freeEntry e).ports, windows := (s.freeEntry e).windows, drt := (s.freeEntry e).drt } := by
  unfold State.freeEntry; rw [State.endDraining_frame]; rfl

section

variable (s : State) (e : Entry)

@[simp] theorem State.freeEntry_discardInterval : (s.freeEntry e).discardInterval = s.discardInterval := (congrArg State.discardInterval (s.freeEntry_frame e) :)
@[simp] theorem State.freeEntry_pwq : (s.freeEntry e).pwq = s.pwq := (congrArg State.pwq (s.freeEntry_frame e) :)
@[simp] theorem State.freeEntry_lastSequence : (s.freeEntry e).lastSequence = s.lastSequence := (congrArg State.lastSequence (s.freeEntry_frame e) :)
@[simp] theorem State.freeEntry_claim : (s.freeEntry e).claim = s.claim := (congrArg State.claim (s.freeEntry_frame e) :)
@[simp] theorem State.freeEntry_mem : (s.freeEntry e).mem = s.mem := (congrArg State.mem (s.freeEntry_frame e) :)
@[simp] theorem State.freeEntry_store : (s.freeEntry e).store = s.store := (congrArg State.store (s.freeEntry_frame e) :)
@[simp] theorem State.freeEntry_lastPosition : (s.freeEntry e).lastPosition = s.lastPosition := (congrArg State.lastPosition (s.freeEntry_frame e) :)
@[simp] theorem State.freeEntry_xbm : (s.freeEntry e).xbm = s.xbm := (congrArg State.xbm (s.freeEntry_frame e) :)
@[simp] theorem State.freeEntry_resetInput : (s.freeEntry e).resetInput = s.resetInput := (congrArg State.resetInput (s.freeEntry_frame e) :)
@[simp] theorem State.freeEntry_clearing : (s.freeEntry e).clearing = s.clearing := (congrArg State.clearing (s.freeEntry_frame e) :)
@[simp] theorem State.freeEntry_busItems : (s.freeEntry e).busItems = s.busItems := (congrArg State.busItems (s.freeEntry_frame e) :)
@[simp] theorem State.freeEntry_choices : (s.freeEntry e).choices = s.choices := (congrArg State.choices (s.freeEntry_frame e) :)
@[simp] theorem State.freeEntry_pending : (s.freeEntry e).pending = s.pending := (congrArg State.pending (s.freeEntry_frame e) :)

end

theorem State.discardEntry_frame (s : State) (e : Entry) (cause : DiscardCause) (performed first : Bool) :
    s.discardEntry e cause performed first = { s with ports := (s.discardEntry e cause performed first).ports, windows := (s.discardEntry e cause performed first).windows, drt := (s.discardEntry e cause performed first).drt } := by
  have h : ∀ s : State, ∀ r, (s.offer e.owner r).freeEntry e = { s with
      ports := ((s.offer e.owner r).freeEntry e).ports
      windows := ((s.offer e.owner r).freeEntry e).windows
      drt := ((s.offer e.owner r).freeEntry e).drt } := by
    intro s r; rw [State.freeEntry_frame]; rfl
  unfold State.discardEntry
  split
  · split
    · exact h s _
    · rw [State.freeEntry_frame]; rfl
  · exact h s _

section

variable (s : State) (e : Entry) (cause : DiscardCause) (performed first : Bool)

@[simp] theorem State.discardEntry_discardInterval : (s.discardEntry e cause performed first).discardInterval = s.discardInterval := (congrArg State.discardInterval (s.discardEntry_frame e cause performed first) :)
@[simp] theorem State.discardEntry_pwq : (s.discardEntry e cause performed first).pwq = s.pwq := (congrArg State.pwq (s.discardEntry_frame e cause performed first) :)
@[simp] theorem State.discardEntry_lastSequence : (s.discardEntry e cause performed first).lastSequence = s.lastSequence := (congrArg State.lastSequence (s.discardEntry_frame e cause performed first) :)
@[simp] theorem State.discardEntry_claim : (s.discardEntry e cause performed first).claim = s.claim := (congrArg State.claim (s.discardEntry_frame e cause performed first) :)
@[simp] theorem State.discardEntry_mem : (s.discardEntry e cause performed first).mem = s.mem := (congrArg State.mem (s.discardEntry_frame e cause performed first) :)
@[simp] theorem State.discardEntry_store : (s.discardEntry e cause performed first).store = s.store := (congrArg State.store (s.discardEntry_frame e cause performed first) :)
@[simp] theorem State.discardEntry_lastPosition : (s.discardEntry e cause performed first).lastPosition = s.lastPosition := (congrArg State.lastPosition (s.discardEntry_frame e cause performed first) :)
@[simp] theorem State.discardEntry_xbm : (s.discardEntry e cause performed first).xbm = s.xbm := (congrArg State.xbm (s.discardEntry_frame e cause performed first) :)
@[simp] theorem State.discardEntry_resetInput : (s.discardEntry e cause performed first).resetInput = s.resetInput := (congrArg State.resetInput (s.discardEntry_frame e cause performed first) :)
@[simp] theorem State.discardEntry_clearing : (s.discardEntry e cause performed first).clearing = s.clearing := (congrArg State.clearing (s.discardEntry_frame e cause performed first) :)
@[simp] theorem State.discardEntry_busItems : (s.discardEntry e cause performed first).busItems = s.busItems := (congrArg State.busItems (s.discardEntry_frame e cause performed first) :)
@[simp] theorem State.discardEntry_choices : (s.discardEntry e cause performed first).choices = s.choices := (congrArg State.choices (s.discardEntry_frame e cause performed first) :)
@[simp] theorem State.discardEntry_pending : (s.discardEntry e cause performed first).pending = s.pending := (congrArg State.pending (s.discardEntry_frame e cause performed first) :)

end

theorem State.expireEntry_frame (s : State) (e : Entry) :
    s.expireEntry e = { s with ports := (s.expireEntry e).ports, windows := (s.expireEntry e).windows, drt := (s.expireEntry e).drt, choices := (s.expireEntry e).choices } := by
  unfold State.expireEntry; rw [State.discardEntry_frame]; rfl

section

variable (s : State) (e : Entry)

@[simp] theorem State.expireEntry_discardInterval : (s.expireEntry e).discardInterval = s.discardInterval := (congrArg State.discardInterval (s.expireEntry_frame e) :)
@[simp] theorem State.expireEntry_pwq : (s.expireEntry e).pwq = s.pwq := (congrArg State.pwq (s.expireEntry_frame e) :)
@[simp] theorem State.expireEntry_lastSequence : (s.expireEntry e).lastSequence = s.lastSequence := (congrArg State.lastSequence (s.expireEntry_frame e) :)
@[simp] theorem State.expireEntry_claim : (s.expireEntry e).claim = s.claim := (congrArg State.claim (s.expireEntry_frame e) :)
@[simp] theorem State.expireEntry_mem : (s.expireEntry e).mem = s.mem := (congrArg State.mem (s.expireEntry_frame e) :)
@[simp] theorem State.expireEntry_store : (s.expireEntry e).store = s.store := (congrArg State.store (s.expireEntry_frame e) :)
@[simp] theorem State.expireEntry_lastPosition : (s.expireEntry e).lastPosition = s.lastPosition := (congrArg State.lastPosition (s.expireEntry_frame e) :)
@[simp] theorem State.expireEntry_xbm : (s.expireEntry e).xbm = s.xbm := (congrArg State.xbm (s.expireEntry_frame e) :)
@[simp] theorem State.expireEntry_resetInput : (s.expireEntry e).resetInput = s.resetInput := (congrArg State.resetInput (s.expireEntry_frame e) :)
@[simp] theorem State.expireEntry_clearing : (s.expireEntry e).clearing = s.clearing := (congrArg State.clearing (s.expireEntry_frame e) :)
@[simp] theorem State.expireEntry_busItems : (s.expireEntry e).busItems = s.busItems := (congrArg State.busItems (s.expireEntry_frame e) :)
@[simp] theorem State.expireEntry_pending : (s.expireEntry e).pending = s.pending := (congrArg State.pending (s.expireEntry_frame e) :)

end

theorem State.refuseEntry_frame (s : State) (e : Entry) :
    s.refuseEntry e = { s with ports := (s.refuseEntry e).ports, windows := (s.refuseEntry e).windows, drt := (s.refuseEntry e).drt, choices := (s.refuseEntry e).choices } := by
  unfold State.refuseEntry; split
  · rw [State.discardEntry_frame]; rfl
  · rw [State.discardEntry_frame]; rfl
  · rfl
  · rfl

section

variable (s : State) (e : Entry)

@[simp] theorem State.refuseEntry_discardInterval : (s.refuseEntry e).discardInterval = s.discardInterval := (congrArg State.discardInterval (s.refuseEntry_frame e) :)
@[simp] theorem State.refuseEntry_pwq : (s.refuseEntry e).pwq = s.pwq := (congrArg State.pwq (s.refuseEntry_frame e) :)
@[simp] theorem State.refuseEntry_lastSequence : (s.refuseEntry e).lastSequence = s.lastSequence := (congrArg State.lastSequence (s.refuseEntry_frame e) :)
@[simp] theorem State.refuseEntry_claim : (s.refuseEntry e).claim = s.claim := (congrArg State.claim (s.refuseEntry_frame e) :)
@[simp] theorem State.refuseEntry_mem : (s.refuseEntry e).mem = s.mem := (congrArg State.mem (s.refuseEntry_frame e) :)
@[simp] theorem State.refuseEntry_store : (s.refuseEntry e).store = s.store := (congrArg State.store (s.refuseEntry_frame e) :)
@[simp] theorem State.refuseEntry_lastPosition : (s.refuseEntry e).lastPosition = s.lastPosition := (congrArg State.lastPosition (s.refuseEntry_frame e) :)
@[simp] theorem State.refuseEntry_xbm : (s.refuseEntry e).xbm = s.xbm := (congrArg State.xbm (s.refuseEntry_frame e) :)
@[simp] theorem State.refuseEntry_resetInput : (s.refuseEntry e).resetInput = s.resetInput := (congrArg State.resetInput (s.refuseEntry_frame e) :)
@[simp] theorem State.refuseEntry_clearing : (s.refuseEntry e).clearing = s.clearing := (congrArg State.clearing (s.refuseEntry_frame e) :)
@[simp] theorem State.refuseEntry_busItems : (s.refuseEntry e).busItems = s.busItems := (congrArg State.busItems (s.refuseEntry_frame e) :)
@[simp] theorem State.refuseEntry_pending : (s.refuseEntry e).pending = s.pending := (congrArg State.pending (s.refuseEntry_frame e) :)

end

theorem State.rerequest_frame (s : State) (p : PortId) (e : Entry) :
    s.rerequest p e = { s with ports := (s.rerequest p e).ports, windows := (s.rerequest p e).windows, drt := (s.rerequest p e).drt, choices := (s.rerequest p e).choices } := by
  unfold State.rerequest; split
  · split
    · rw [State.freeEntry_frame]; rfl
    · rfl
  · rw [State.refuseEntry_frame]; rfl

section

variable (s : State) (p : PortId) (e : Entry)

@[simp] theorem State.rerequest_discardInterval : (s.rerequest p e).discardInterval = s.discardInterval := (congrArg State.discardInterval (s.rerequest_frame p e) :)
@[simp] theorem State.rerequest_pwq : (s.rerequest p e).pwq = s.pwq := (congrArg State.pwq (s.rerequest_frame p e) :)
@[simp] theorem State.rerequest_lastSequence : (s.rerequest p e).lastSequence = s.lastSequence := (congrArg State.lastSequence (s.rerequest_frame p e) :)
@[simp] theorem State.rerequest_claim : (s.rerequest p e).claim = s.claim := (congrArg State.claim (s.rerequest_frame p e) :)
@[simp] theorem State.rerequest_mem : (s.rerequest p e).mem = s.mem := (congrArg State.mem (s.rerequest_frame p e) :)
@[simp] theorem State.rerequest_store : (s.rerequest p e).store = s.store := (congrArg State.store (s.rerequest_frame p e) :)
@[simp] theorem State.rerequest_lastPosition : (s.rerequest p e).lastPosition = s.lastPosition := (congrArg State.lastPosition (s.rerequest_frame p e) :)
@[simp] theorem State.rerequest_xbm : (s.rerequest p e).xbm = s.xbm := (congrArg State.xbm (s.rerequest_frame p e) :)
@[simp] theorem State.rerequest_resetInput : (s.rerequest p e).resetInput = s.resetInput := (congrArg State.resetInput (s.rerequest_frame p e) :)
@[simp] theorem State.rerequest_clearing : (s.rerequest p e).clearing = s.clearing := (congrArg State.clearing (s.rerequest_frame p e) :)
@[simp] theorem State.rerequest_busItems : (s.rerequest p e).busItems = s.busItems := (congrArg State.busItems (s.rerequest_frame p e) :)
@[simp] theorem State.rerequest_pending : (s.rerequest p e).pending = s.pending := (congrArg State.pending (s.rerequest_frame p e) :)

end

theorem State.purgeEntry_frame (s : State) (e : Entry) :
    s.purgeEntry e = { s with ports := (s.purgeEntry e).ports, windows := (s.purgeEntry e).windows, drt := (s.purgeEntry e).drt } := by
  unfold State.purgeEntry; split <;> rfl

section

variable (s : State) (e : Entry)

@[simp] theorem State.purgeEntry_discardInterval : (s.purgeEntry e).discardInterval = s.discardInterval := (congrArg State.discardInterval (s.purgeEntry_frame e) :)
@[simp] theorem State.purgeEntry_pwq : (s.purgeEntry e).pwq = s.pwq := (congrArg State.pwq (s.purgeEntry_frame e) :)
@[simp] theorem State.purgeEntry_lastSequence : (s.purgeEntry e).lastSequence = s.lastSequence := (congrArg State.lastSequence (s.purgeEntry_frame e) :)
@[simp] theorem State.purgeEntry_claim : (s.purgeEntry e).claim = s.claim := (congrArg State.claim (s.purgeEntry_frame e) :)
@[simp] theorem State.purgeEntry_mem : (s.purgeEntry e).mem = s.mem := (congrArg State.mem (s.purgeEntry_frame e) :)
@[simp] theorem State.purgeEntry_store : (s.purgeEntry e).store = s.store := (congrArg State.store (s.purgeEntry_frame e) :)
@[simp] theorem State.purgeEntry_lastPosition : (s.purgeEntry e).lastPosition = s.lastPosition := (congrArg State.lastPosition (s.purgeEntry_frame e) :)
@[simp] theorem State.purgeEntry_xbm : (s.purgeEntry e).xbm = s.xbm := (congrArg State.xbm (s.purgeEntry_frame e) :)
@[simp] theorem State.purgeEntry_resetInput : (s.purgeEntry e).resetInput = s.resetInput := (congrArg State.resetInput (s.purgeEntry_frame e) :)
@[simp] theorem State.purgeEntry_clearing : (s.purgeEntry e).clearing = s.clearing := (congrArg State.clearing (s.purgeEntry_frame e) :)
@[simp] theorem State.purgeEntry_busItems : (s.purgeEntry e).busItems = s.busItems := (congrArg State.busItems (s.purgeEntry_frame e) :)
@[simp] theorem State.purgeEntry_choices : (s.purgeEntry e).choices = s.choices := (congrArg State.choices (s.purgeEntry_frame e) :)
@[simp] theorem State.purgeEntry_pending : (s.purgeEntry e).pending = s.pending := (congrArg State.pending (s.purgeEntry_frame e) :)

end

theorem State.tearEntry_frame (s : State) (e : Entry) :
    s.tearEntry e = { s with windows := (s.tearEntry e).windows, drt := (s.tearEntry e).drt } := by
  unfold State.tearEntry; split <;> rfl

section

variable (s : State) (e : Entry)

@[simp] theorem State.tearEntry_ports : (s.tearEntry e).ports = s.ports := (congrArg State.ports (s.tearEntry_frame e) :)
@[simp] theorem State.tearEntry_discardInterval : (s.tearEntry e).discardInterval = s.discardInterval := (congrArg State.discardInterval (s.tearEntry_frame e) :)
@[simp] theorem State.tearEntry_pwq : (s.tearEntry e).pwq = s.pwq := (congrArg State.pwq (s.tearEntry_frame e) :)
@[simp] theorem State.tearEntry_lastSequence : (s.tearEntry e).lastSequence = s.lastSequence := (congrArg State.lastSequence (s.tearEntry_frame e) :)
@[simp] theorem State.tearEntry_claim : (s.tearEntry e).claim = s.claim := (congrArg State.claim (s.tearEntry_frame e) :)
@[simp] theorem State.tearEntry_mem : (s.tearEntry e).mem = s.mem := (congrArg State.mem (s.tearEntry_frame e) :)
@[simp] theorem State.tearEntry_store : (s.tearEntry e).store = s.store := (congrArg State.store (s.tearEntry_frame e) :)
@[simp] theorem State.tearEntry_lastPosition : (s.tearEntry e).lastPosition = s.lastPosition := (congrArg State.lastPosition (s.tearEntry_frame e) :)
@[simp] theorem State.tearEntry_xbm : (s.tearEntry e).xbm = s.xbm := (congrArg State.xbm (s.tearEntry_frame e) :)
@[simp] theorem State.tearEntry_resetInput : (s.tearEntry e).resetInput = s.resetInput := (congrArg State.resetInput (s.tearEntry_frame e) :)
@[simp] theorem State.tearEntry_clearing : (s.tearEntry e).clearing = s.clearing := (congrArg State.clearing (s.tearEntry_frame e) :)
@[simp] theorem State.tearEntry_busItems : (s.tearEntry e).busItems = s.busItems := (congrArg State.busItems (s.tearEntry_frame e) :)
@[simp] theorem State.tearEntry_choices : (s.tearEntry e).choices = s.choices := (congrArg State.choices (s.tearEntry_frame e) :)
@[simp] theorem State.tearEntry_pending : (s.tearEntry e).pending = s.pending := (congrArg State.pending (s.tearEntry_frame e) :)

end

/-- A fold of updates that each leave a field alone leaves it alone. -/
theorem foldl_field {α β : Type} (f : State → α → State) (get : State → β) (h : ∀ s a, get (f s a) = get s)
    (l : List α) (s : State) : get (l.foldl f s) = get s := by
  induction l generalizing s with
  | nil => rfl
  | cons a l ih => rw [List.foldl_cons, ih, h]

theorem State.tearEntries_frame (s : State) (p : PortId) :
    s.tearEntries p = { s with windows := (s.tearEntries p).windows, drt := (s.tearEntries p).drt } := by
  unfold State.tearEntries
  apply State.eq_of_fields
  · exact foldl_field State.tearEntry State.ports (fun s e => by simp) _ _
  · rfl
  · rfl
  · exact foldl_field State.tearEntry State.discardInterval (fun s e => by simp) _ _
  · exact foldl_field State.tearEntry State.pwq (fun s e => by simp) _ _
  · exact foldl_field State.tearEntry State.lastSequence (fun s e => by simp) _ _
  · exact foldl_field State.tearEntry State.claim (fun s e => by simp) _ _
  · exact foldl_field State.tearEntry State.mem (fun s e => by simp) _ _
  · exact foldl_field State.tearEntry State.store (fun s e => by simp) _ _
  · exact foldl_field State.tearEntry State.lastPosition (fun s e => by simp) _ _
  · exact foldl_field State.tearEntry State.xbm (fun s e => by simp) _ _
  · exact foldl_field State.tearEntry State.resetInput (fun s e => by simp) _ _
  · exact foldl_field State.tearEntry State.clearing (fun s e => by simp) _ _
  · exact foldl_field State.tearEntry State.busItems (fun s e => by simp) _ _
  · exact foldl_field State.tearEntry State.choices (fun s e => by simp) _ _
  · exact foldl_field State.tearEntry State.pending (fun s e => by simp) _ _

section

variable (s : State) (p : PortId)

@[simp] theorem State.tearEntries_ports : (s.tearEntries p).ports = s.ports := (congrArg State.ports (s.tearEntries_frame p) :)
@[simp] theorem State.tearEntries_discardInterval : (s.tearEntries p).discardInterval = s.discardInterval := (congrArg State.discardInterval (s.tearEntries_frame p) :)
@[simp] theorem State.tearEntries_pwq : (s.tearEntries p).pwq = s.pwq := (congrArg State.pwq (s.tearEntries_frame p) :)
@[simp] theorem State.tearEntries_lastSequence : (s.tearEntries p).lastSequence = s.lastSequence := (congrArg State.lastSequence (s.tearEntries_frame p) :)
@[simp] theorem State.tearEntries_claim : (s.tearEntries p).claim = s.claim := (congrArg State.claim (s.tearEntries_frame p) :)
@[simp] theorem State.tearEntries_mem : (s.tearEntries p).mem = s.mem := (congrArg State.mem (s.tearEntries_frame p) :)
@[simp] theorem State.tearEntries_store : (s.tearEntries p).store = s.store := (congrArg State.store (s.tearEntries_frame p) :)
@[simp] theorem State.tearEntries_lastPosition : (s.tearEntries p).lastPosition = s.lastPosition := (congrArg State.lastPosition (s.tearEntries_frame p) :)
@[simp] theorem State.tearEntries_xbm : (s.tearEntries p).xbm = s.xbm := (congrArg State.xbm (s.tearEntries_frame p) :)
@[simp] theorem State.tearEntries_resetInput : (s.tearEntries p).resetInput = s.resetInput := (congrArg State.resetInput (s.tearEntries_frame p) :)
@[simp] theorem State.tearEntries_clearing : (s.tearEntries p).clearing = s.clearing := (congrArg State.clearing (s.tearEntries_frame p) :)
@[simp] theorem State.tearEntries_busItems : (s.tearEntries p).busItems = s.busItems := (congrArg State.busItems (s.tearEntries_frame p) :)
@[simp] theorem State.tearEntries_choices : (s.tearEntries p).choices = s.choices := (congrArg State.choices (s.tearEntries_frame p) :)
@[simp] theorem State.tearEntries_pending : (s.tearEntries p).pending = s.pending := (congrArg State.pending (s.tearEntries_frame p) :)

end

theorem State.purgeStep_frame (s : State) (w : WindowId) :
    s.purgeStep w = { s with ports := (s.purgeStep w).ports, windows := (s.purgeStep w).windows, drt := (s.purgeStep w).drt } := by
  unfold State.purgeStep
  rw [State.endDraining_frame]
  apply State.eq_of_fields
  · rfl
  · rfl
  · rfl
  · exact foldl_field State.purgeEntry State.discardInterval (fun s e => by simp) _ _
  · exact foldl_field State.purgeEntry State.pwq (fun s e => by simp) _ _
  · exact foldl_field State.purgeEntry State.lastSequence (fun s e => by simp) _ _
  · exact foldl_field State.purgeEntry State.claim (fun s e => by simp) _ _
  · exact foldl_field State.purgeEntry State.mem (fun s e => by simp) _ _
  · exact foldl_field State.purgeEntry State.store (fun s e => by simp) _ _
  · exact foldl_field State.purgeEntry State.lastPosition (fun s e => by simp) _ _
  · exact foldl_field State.purgeEntry State.xbm (fun s e => by simp) _ _
  · exact foldl_field State.purgeEntry State.resetInput (fun s e => by simp) _ _
  · exact foldl_field State.purgeEntry State.clearing (fun s e => by simp) _ _
  · exact foldl_field State.purgeEntry State.busItems (fun s e => by simp) _ _
  · exact foldl_field State.purgeEntry State.choices (fun s e => by simp) _ _
  · exact foldl_field State.purgeEntry State.pending (fun s e => by simp) _ _

section

variable (s : State) (w : WindowId)

@[simp] theorem State.purgeStep_discardInterval : (s.purgeStep w).discardInterval = s.discardInterval := (congrArg State.discardInterval (s.purgeStep_frame w) :)
@[simp] theorem State.purgeStep_pwq : (s.purgeStep w).pwq = s.pwq := (congrArg State.pwq (s.purgeStep_frame w) :)
@[simp] theorem State.purgeStep_lastSequence : (s.purgeStep w).lastSequence = s.lastSequence := (congrArg State.lastSequence (s.purgeStep_frame w) :)
@[simp] theorem State.purgeStep_claim : (s.purgeStep w).claim = s.claim := (congrArg State.claim (s.purgeStep_frame w) :)
@[simp] theorem State.purgeStep_mem : (s.purgeStep w).mem = s.mem := (congrArg State.mem (s.purgeStep_frame w) :)
@[simp] theorem State.purgeStep_store : (s.purgeStep w).store = s.store := (congrArg State.store (s.purgeStep_frame w) :)
@[simp] theorem State.purgeStep_lastPosition : (s.purgeStep w).lastPosition = s.lastPosition := (congrArg State.lastPosition (s.purgeStep_frame w) :)
@[simp] theorem State.purgeStep_xbm : (s.purgeStep w).xbm = s.xbm := (congrArg State.xbm (s.purgeStep_frame w) :)
@[simp] theorem State.purgeStep_resetInput : (s.purgeStep w).resetInput = s.resetInput := (congrArg State.resetInput (s.purgeStep_frame w) :)
@[simp] theorem State.purgeStep_clearing : (s.purgeStep w).clearing = s.clearing := (congrArg State.clearing (s.purgeStep_frame w) :)
@[simp] theorem State.purgeStep_busItems : (s.purgeStep w).busItems = s.busItems := (congrArg State.busItems (s.purgeStep_frame w) :)
@[simp] theorem State.purgeStep_choices : (s.purgeStep w).choices = s.choices := (congrArg State.choices (s.purgeStep_frame w) :)
@[simp] theorem State.purgeStep_pending : (s.purgeStep w).pending = s.pending := (congrArg State.pending (s.purgeStep_frame w) :)

end

theorem State.teardown_frame (s : State) (p : PortId) (cause : LeaveCause) :
    s.teardown p cause = { s with ports := (s.teardown p cause).ports, windows := (s.teardown p cause).windows, drt := (s.teardown p cause).drt, claim := (s.teardown p cause).claim } := by
  apply State.eq_of_fields
  · with_reducible rfl
  · with_reducible rfl
  · with_reducible rfl
  · unfold State.teardown; simp only []
    split <;> simp [foldl_field State.endDraining State.discardInterval (fun s w => s.endDraining_discardInterval w)]
  · unfold State.teardown; simp only []
    split <;> simp [foldl_field State.endDraining State.pwq (fun s w => s.endDraining_pwq w)]
  · unfold State.teardown; simp only []
    split <;> simp [foldl_field State.endDraining State.lastSequence (fun s w => s.endDraining_lastSequence w)]
  · with_reducible rfl
  · unfold State.teardown; simp only []
    split <;> simp [foldl_field State.endDraining State.mem (fun s w => s.endDraining_mem w)]
  · unfold State.teardown; simp only []
    split <;> simp [foldl_field State.endDraining State.store (fun s w => s.endDraining_store w)]
  · unfold State.teardown; simp only []
    split <;> simp [foldl_field State.endDraining State.lastPosition (fun s w => s.endDraining_lastPosition w)]
  · unfold State.teardown; simp only []
    split <;> simp [foldl_field State.endDraining State.xbm (fun s w => s.endDraining_xbm w)]
  · unfold State.teardown; simp only []
    split <;> simp [foldl_field State.endDraining State.resetInput (fun s w => s.endDraining_resetInput w)]
  · unfold State.teardown; simp only []
    split <;> simp [foldl_field State.endDraining State.clearing (fun s w => s.endDraining_clearing w)]
  · unfold State.teardown; simp only []
    split <;> simp [foldl_field State.endDraining State.busItems (fun s w => s.endDraining_busItems w)]
  · unfold State.teardown; simp only []
    split <;> simp [foldl_field State.endDraining State.choices (fun s w => s.endDraining_choices w)]
  · unfold State.teardown; simp only []
    split <;> simp [foldl_field State.endDraining State.pending (fun s w => s.endDraining_pending w)]

section

variable (s : State) (p : PortId) (cause : LeaveCause)

@[simp] theorem State.teardown_discardInterval : (s.teardown p cause).discardInterval = s.discardInterval := (congrArg State.discardInterval (s.teardown_frame p cause) :)
@[simp] theorem State.teardown_pwq : (s.teardown p cause).pwq = s.pwq := (congrArg State.pwq (s.teardown_frame p cause) :)
@[simp] theorem State.teardown_lastSequence : (s.teardown p cause).lastSequence = s.lastSequence := (congrArg State.lastSequence (s.teardown_frame p cause) :)
@[simp] theorem State.teardown_mem : (s.teardown p cause).mem = s.mem := (congrArg State.mem (s.teardown_frame p cause) :)
@[simp] theorem State.teardown_store : (s.teardown p cause).store = s.store := (congrArg State.store (s.teardown_frame p cause) :)
@[simp] theorem State.teardown_lastPosition : (s.teardown p cause).lastPosition = s.lastPosition := (congrArg State.lastPosition (s.teardown_frame p cause) :)
@[simp] theorem State.teardown_xbm : (s.teardown p cause).xbm = s.xbm := (congrArg State.xbm (s.teardown_frame p cause) :)
@[simp] theorem State.teardown_resetInput : (s.teardown p cause).resetInput = s.resetInput := (congrArg State.resetInput (s.teardown_frame p cause) :)
@[simp] theorem State.teardown_clearing : (s.teardown p cause).clearing = s.clearing := (congrArg State.clearing (s.teardown_frame p cause) :)
@[simp] theorem State.teardown_busItems : (s.teardown p cause).busItems = s.busItems := (congrArg State.busItems (s.teardown_frame p cause) :)
@[simp] theorem State.teardown_choices : (s.teardown p cause).choices = s.choices := (congrArg State.choices (s.teardown_frame p cause) :)
@[simp] theorem State.teardown_pending : (s.teardown p cause).pending = s.pending := (congrArg State.pending (s.teardown_frame p cause) :)

end

theorem State.leaveOnline_frame (s : State) (p : PortId) (cause : LeaveCause) :
    s.leaveOnline p cause = { s with ports := (s.leaveOnline p cause).ports, windows := (s.leaveOnline p cause).windows, drt := (s.leaveOnline p cause).drt, claim := (s.leaveOnline p cause).claim } := by
  apply State.eq_of_fields
  · with_reducible rfl
  · with_reducible rfl
  · with_reducible rfl
  · simp [State.leaveOnline]
  · simp [State.leaveOnline]
  · simp [State.leaveOnline]
  · with_reducible rfl
  · simp [State.leaveOnline]
  · simp [State.leaveOnline]
  · simp [State.leaveOnline]
  · simp [State.leaveOnline]
  · simp [State.leaveOnline]
  · simp [State.leaveOnline]
  · simp [State.leaveOnline]
  · simp [State.leaveOnline]
  · simp [State.leaveOnline]

section

variable (s : State) (p : PortId) (cause : LeaveCause)

@[simp] theorem State.leaveOnline_discardInterval : (s.leaveOnline p cause).discardInterval = s.discardInterval := (congrArg State.discardInterval (s.leaveOnline_frame p cause) :)
@[simp] theorem State.leaveOnline_pwq : (s.leaveOnline p cause).pwq = s.pwq := (congrArg State.pwq (s.leaveOnline_frame p cause) :)
@[simp] theorem State.leaveOnline_lastSequence : (s.leaveOnline p cause).lastSequence = s.lastSequence := (congrArg State.lastSequence (s.leaveOnline_frame p cause) :)
@[simp] theorem State.leaveOnline_mem : (s.leaveOnline p cause).mem = s.mem := (congrArg State.mem (s.leaveOnline_frame p cause) :)
@[simp] theorem State.leaveOnline_store : (s.leaveOnline p cause).store = s.store := (congrArg State.store (s.leaveOnline_frame p cause) :)
@[simp] theorem State.leaveOnline_lastPosition : (s.leaveOnline p cause).lastPosition = s.lastPosition := (congrArg State.lastPosition (s.leaveOnline_frame p cause) :)
@[simp] theorem State.leaveOnline_xbm : (s.leaveOnline p cause).xbm = s.xbm := (congrArg State.xbm (s.leaveOnline_frame p cause) :)
@[simp] theorem State.leaveOnline_resetInput : (s.leaveOnline p cause).resetInput = s.resetInput := (congrArg State.resetInput (s.leaveOnline_frame p cause) :)
@[simp] theorem State.leaveOnline_clearing : (s.leaveOnline p cause).clearing = s.clearing := (congrArg State.clearing (s.leaveOnline_frame p cause) :)
@[simp] theorem State.leaveOnline_busItems : (s.leaveOnline p cause).busItems = s.busItems := (congrArg State.busItems (s.leaveOnline_frame p cause) :)
@[simp] theorem State.leaveOnline_choices : (s.leaveOnline p cause).choices = s.choices := (congrArg State.choices (s.leaveOnline_frame p cause) :)
@[simp] theorem State.leaveOnline_pending : (s.leaveOnline p cause).pending = s.pending := (congrArg State.pending (s.leaveOnline_frame p cause) :)

end

theorem State.dropLink_frame (s : State) (p : PortId) :
    s.dropLink p = { s with ports := (s.dropLink p).ports, windows := (s.dropLink p).windows, claim := (s.dropLink p).claim, drt := (s.dropLink p).drt, pwq := (s.dropLink p).pwq, store := (s.dropLink p).store, lastPosition := (s.dropLink p).lastPosition, xbm := (s.dropLink p).xbm, busItems := (s.dropLink p).busItems, choices := (s.dropLink p).choices } := by
  apply State.eq_of_fields
  · with_reducible rfl
  · with_reducible rfl
  · with_reducible rfl
  · unfold State.dropLink; simp only []; split <;> simp
  · with_reducible rfl
  · unfold State.dropLink; simp only []; split <;> simp
  · with_reducible rfl
  · unfold State.dropLink; simp only []; split <;> simp
  · with_reducible rfl
  · with_reducible rfl
  · with_reducible rfl
  · unfold State.dropLink; simp only []; split <;> simp
  · unfold State.dropLink; simp only []; split <;> simp
  · with_reducible rfl
  · with_reducible rfl
  · unfold State.dropLink; simp only []; split <;> simp

section

variable (s : State) (p : PortId)

@[simp] theorem State.dropLink_discardInterval : (s.dropLink p).discardInterval = s.discardInterval := (congrArg State.discardInterval (s.dropLink_frame p) :)
@[simp] theorem State.dropLink_lastSequence : (s.dropLink p).lastSequence = s.lastSequence := (congrArg State.lastSequence (s.dropLink_frame p) :)
@[simp] theorem State.dropLink_mem : (s.dropLink p).mem = s.mem := (congrArg State.mem (s.dropLink_frame p) :)
@[simp] theorem State.dropLink_resetInput : (s.dropLink p).resetInput = s.resetInput := (congrArg State.resetInput (s.dropLink_frame p) :)
@[simp] theorem State.dropLink_clearing : (s.dropLink p).clearing = s.clearing := (congrArg State.clearing (s.dropLink_frame p) :)
@[simp] theorem State.dropLink_pending : (s.dropLink p).pending = s.pending := (congrArg State.pending (s.dropLink_frame p) :)

end

theorem State.linkDown_frame (s : State) (p : PortId) :
    s.linkDown p = { s with ports := (s.linkDown p).ports, windows := (s.linkDown p).windows, claim := (s.linkDown p).claim, drt := (s.linkDown p).drt, pwq := (s.linkDown p).pwq, store := (s.linkDown p).store, lastPosition := (s.linkDown p).lastPosition, xbm := (s.linkDown p).xbm, busItems := (s.linkDown p).busItems, choices := (s.linkDown p).choices } := by
  apply State.eq_of_fields
  · with_reducible rfl
  · with_reducible rfl
  · with_reducible rfl
  · simp [State.linkDown]
  · with_reducible rfl
  · simp [State.linkDown]
  · with_reducible rfl
  · simp [State.linkDown]
  · with_reducible rfl
  · with_reducible rfl
  · with_reducible rfl
  · simp [State.linkDown]
  · simp [State.linkDown]
  · with_reducible rfl
  · with_reducible rfl
  · simp [State.linkDown]

section

variable (s : State) (p : PortId)

@[simp] theorem State.linkDown_discardInterval : (s.linkDown p).discardInterval = s.discardInterval := (congrArg State.discardInterval (s.linkDown_frame p) :)
@[simp] theorem State.linkDown_lastSequence : (s.linkDown p).lastSequence = s.lastSequence := (congrArg State.lastSequence (s.linkDown_frame p) :)
@[simp] theorem State.linkDown_mem : (s.linkDown p).mem = s.mem := (congrArg State.mem (s.linkDown_frame p) :)
@[simp] theorem State.linkDown_resetInput : (s.linkDown p).resetInput = s.resetInput := (congrArg State.resetInput (s.linkDown_frame p) :)
@[simp] theorem State.linkDown_clearing : (s.linkDown p).clearing = s.clearing := (congrArg State.clearing (s.linkDown_frame p) :)
@[simp] theorem State.linkDown_pending : (s.linkDown p).pending = s.pending := (congrArg State.pending (s.linkDown_frame p) :)

end

theorem State.resolveAll_frame (s : State) :
    s.resolveAll = { s with ports := s.resolveAll.ports, choices := s.resolveAll.choices } := by
  unfold State.resolveAll
  apply State.eq_of_fields
  · rfl
  · exact foldl_field State.resolve State.windows (fun s e => by simp) _ _
  · exact foldl_field State.resolve State.drt (fun s e => by simp) _ _
  · exact foldl_field State.resolve State.discardInterval (fun s e => by simp) _ _
  · exact foldl_field State.resolve State.pwq (fun s e => by simp) _ _
  · exact foldl_field State.resolve State.lastSequence (fun s e => by simp) _ _
  · exact foldl_field State.resolve State.claim (fun s e => by simp) _ _
  · exact foldl_field State.resolve State.mem (fun s e => by simp) _ _
  · exact foldl_field State.resolve State.store (fun s e => by simp) _ _
  · exact foldl_field State.resolve State.lastPosition (fun s e => by simp) _ _
  · exact foldl_field State.resolve State.xbm (fun s e => by simp) _ _
  · exact foldl_field State.resolve State.resetInput (fun s e => by simp) _ _
  · exact foldl_field State.resolve State.clearing (fun s e => by simp) _ _
  · exact foldl_field State.resolve State.busItems (fun s e => by simp) _ _
  · rfl
  · exact foldl_field State.resolve State.pending (fun s e => by simp) _ _

section

variable (s : State)

@[simp] theorem State.resolveAll_windows : s.resolveAll.windows = s.windows := (congrArg State.windows (s.resolveAll_frame) :)
@[simp] theorem State.resolveAll_drt : s.resolveAll.drt = s.drt := (congrArg State.drt (s.resolveAll_frame) :)
@[simp] theorem State.resolveAll_discardInterval : s.resolveAll.discardInterval = s.discardInterval := (congrArg State.discardInterval (s.resolveAll_frame) :)
@[simp] theorem State.resolveAll_pwq : s.resolveAll.pwq = s.pwq := (congrArg State.pwq (s.resolveAll_frame) :)
@[simp] theorem State.resolveAll_lastSequence : s.resolveAll.lastSequence = s.lastSequence := (congrArg State.lastSequence (s.resolveAll_frame) :)
@[simp] theorem State.resolveAll_claim : s.resolveAll.claim = s.claim := (congrArg State.claim (s.resolveAll_frame) :)
@[simp] theorem State.resolveAll_mem : s.resolveAll.mem = s.mem := (congrArg State.mem (s.resolveAll_frame) :)
@[simp] theorem State.resolveAll_store : s.resolveAll.store = s.store := (congrArg State.store (s.resolveAll_frame) :)
@[simp] theorem State.resolveAll_lastPosition : s.resolveAll.lastPosition = s.lastPosition := (congrArg State.lastPosition (s.resolveAll_frame) :)
@[simp] theorem State.resolveAll_xbm : s.resolveAll.xbm = s.xbm := (congrArg State.xbm (s.resolveAll_frame) :)
@[simp] theorem State.resolveAll_resetInput : s.resolveAll.resetInput = s.resetInput := (congrArg State.resetInput (s.resolveAll_frame) :)
@[simp] theorem State.resolveAll_clearing : s.resolveAll.clearing = s.clearing := (congrArg State.clearing (s.resolveAll_frame) :)
@[simp] theorem State.resolveAll_busItems : s.resolveAll.busItems = s.busItems := (congrArg State.busItems (s.resolveAll_frame) :)
@[simp] theorem State.resolveAll_pending : s.resolveAll.pending = s.pending := (congrArg State.pending (s.resolveAll_frame) :)

end

theorem State.receive_frame (s : State) (p : PortId) (frame : Frame) :
    s.receive p frame = { s with ports := (s.receive p frame).ports, windows := (s.receive p frame).windows, claim := (s.receive p frame).claim, drt := (s.receive p frame).drt, pwq := (s.receive p frame).pwq, store := (s.receive p frame).store, lastPosition := (s.receive p frame).lastPosition, xbm := (s.receive p frame).xbm, busItems := (s.receive p frame).busItems, choices := (s.receive p frame).choices } := by
  apply State.eq_of_fields
  · with_reducible rfl
  · with_reducible rfl
  · with_reducible rfl
  · unfold State.receive; split <;> simp
  · with_reducible rfl
  · unfold State.receive; split <;> simp
  · with_reducible rfl
  · unfold State.receive; split <;> simp
  · with_reducible rfl
  · with_reducible rfl
  · with_reducible rfl
  · unfold State.receive; split <;> simp
  · unfold State.receive; split <;> simp
  · with_reducible rfl
  · with_reducible rfl
  · unfold State.receive; split <;> simp

section

variable (s : State) (p : PortId) (frame : Frame)

@[simp] theorem State.receive_discardInterval : (s.receive p frame).discardInterval = s.discardInterval := (congrArg State.discardInterval (s.receive_frame p frame) :)
@[simp] theorem State.receive_lastSequence : (s.receive p frame).lastSequence = s.lastSequence := (congrArg State.lastSequence (s.receive_frame p frame) :)
@[simp] theorem State.receive_mem : (s.receive p frame).mem = s.mem := (congrArg State.mem (s.receive_frame p frame) :)
@[simp] theorem State.receive_resetInput : (s.receive p frame).resetInput = s.resetInput := (congrArg State.resetInput (s.receive_frame p frame) :)
@[simp] theorem State.receive_clearing : (s.receive p frame).clearing = s.clearing := (congrArg State.clearing (s.receive_frame p frame) :)
@[simp] theorem State.receive_pending : (s.receive p frame).pending = s.pending := (congrArg State.pending (s.receive_frame p frame) :)

end

/-! ## The data paths -/

theorem State.allocate_frame (s : State) (t : Tag) (p : PortId) (kind : EntryKind) (addr count : Nat) (w : WindowId) :
    s.allocate t p kind addr count w = { s with windows := (s.allocate t p kind addr count w).windows, drt := (s.allocate t p kind addr count w).drt } :=
  rfl

section

variable (s : State) (t : Tag) (p : PortId) (kind : EntryKind) (addr count : Nat) (w : WindowId)

@[simp] theorem State.allocate_ports : (s.allocate t p kind addr count w).ports = s.ports := (congrArg State.ports (s.allocate_frame t p kind addr count w) :)
@[simp] theorem State.allocate_discardInterval : (s.allocate t p kind addr count w).discardInterval = s.discardInterval := (congrArg State.discardInterval (s.allocate_frame t p kind addr count w) :)
@[simp] theorem State.allocate_pwq : (s.allocate t p kind addr count w).pwq = s.pwq := (congrArg State.pwq (s.allocate_frame t p kind addr count w) :)
@[simp] theorem State.allocate_lastSequence : (s.allocate t p kind addr count w).lastSequence = s.lastSequence := (congrArg State.lastSequence (s.allocate_frame t p kind addr count w) :)
@[simp] theorem State.allocate_claim : (s.allocate t p kind addr count w).claim = s.claim := (congrArg State.claim (s.allocate_frame t p kind addr count w) :)
@[simp] theorem State.allocate_mem : (s.allocate t p kind addr count w).mem = s.mem := (congrArg State.mem (s.allocate_frame t p kind addr count w) :)
@[simp] theorem State.allocate_store : (s.allocate t p kind addr count w).store = s.store := (congrArg State.store (s.allocate_frame t p kind addr count w) :)
@[simp] theorem State.allocate_lastPosition : (s.allocate t p kind addr count w).lastPosition = s.lastPosition := (congrArg State.lastPosition (s.allocate_frame t p kind addr count w) :)
@[simp] theorem State.allocate_xbm : (s.allocate t p kind addr count w).xbm = s.xbm := (congrArg State.xbm (s.allocate_frame t p kind addr count w) :)
@[simp] theorem State.allocate_resetInput : (s.allocate t p kind addr count w).resetInput = s.resetInput := (congrArg State.resetInput (s.allocate_frame t p kind addr count w) :)
@[simp] theorem State.allocate_clearing : (s.allocate t p kind addr count w).clearing = s.clearing := (congrArg State.clearing (s.allocate_frame t p kind addr count w) :)
@[simp] theorem State.allocate_busItems : (s.allocate t p kind addr count w).busItems = s.busItems := (congrArg State.busItems (s.allocate_frame t p kind addr count w) :)
@[simp] theorem State.allocate_choices : (s.allocate t p kind addr count w).choices = s.choices := (congrArg State.choices (s.allocate_frame t p kind addr count w) :)
@[simp] theorem State.allocate_pending : (s.allocate t p kind addr count w).pending = s.pending := (congrArg State.pending (s.allocate_frame t p kind addr count w) :)

end

theorem State.accept_frame (s : State) (p : PortId) (addr : Nat) (data : List Byte) (w : WindowId) :
    s.accept p addr data w = { s with windows := (s.accept p addr data w).windows, drt := (s.accept p addr data w).drt, pwq := (s.accept p addr data w).pwq, lastSequence := (s.accept p addr data w).lastSequence } :=
  rfl

section

variable (s : State) (p : PortId) (addr : Nat) (data : List Byte) (w : WindowId)

@[simp] theorem State.accept_ports : (s.accept p addr data w).ports = s.ports := (congrArg State.ports (s.accept_frame p addr data w) :)
@[simp] theorem State.accept_discardInterval : (s.accept p addr data w).discardInterval = s.discardInterval := (congrArg State.discardInterval (s.accept_frame p addr data w) :)
@[simp] theorem State.accept_claim : (s.accept p addr data w).claim = s.claim := (congrArg State.claim (s.accept_frame p addr data w) :)
@[simp] theorem State.accept_mem : (s.accept p addr data w).mem = s.mem := (congrArg State.mem (s.accept_frame p addr data w) :)
@[simp] theorem State.accept_store : (s.accept p addr data w).store = s.store := (congrArg State.store (s.accept_frame p addr data w) :)
@[simp] theorem State.accept_lastPosition : (s.accept p addr data w).lastPosition = s.lastPosition := (congrArg State.lastPosition (s.accept_frame p addr data w) :)
@[simp] theorem State.accept_xbm : (s.accept p addr data w).xbm = s.xbm := (congrArg State.xbm (s.accept_frame p addr data w) :)
@[simp] theorem State.accept_resetInput : (s.accept p addr data w).resetInput = s.resetInput := (congrArg State.resetInput (s.accept_frame p addr data w) :)
@[simp] theorem State.accept_clearing : (s.accept p addr data w).clearing = s.clearing := (congrArg State.clearing (s.accept_frame p addr data w) :)
@[simp] theorem State.accept_busItems : (s.accept p addr data w).busItems = s.busItems := (congrArg State.busItems (s.accept_frame p addr data w) :)
@[simp] theorem State.accept_choices : (s.accept p addr data w).choices = s.choices := (congrArg State.choices (s.accept_frame p addr data w) :)
@[simp] theorem State.accept_pending : (s.accept p addr data w).pending = s.pending := (congrArg State.pending (s.accept_frame p addr data w) :)

end

theorem State.reportFault_frame (s : State) (w : PostedWrite) (cause : FaultCause) :
    s.reportFault w cause = { s with ports := (s.reportFault w cause).ports } := by
  unfold State.reportFault; split
  · rfl
  · split <;> rfl

section

variable (s : State) (w : PostedWrite) (cause : FaultCause)

@[simp] theorem State.reportFault_windows : (s.reportFault w cause).windows = s.windows := (congrArg State.windows (s.reportFault_frame w cause) :)
@[simp] theorem State.reportFault_drt : (s.reportFault w cause).drt = s.drt := (congrArg State.drt (s.reportFault_frame w cause) :)
@[simp] theorem State.reportFault_discardInterval : (s.reportFault w cause).discardInterval = s.discardInterval := (congrArg State.discardInterval (s.reportFault_frame w cause) :)
@[simp] theorem State.reportFault_pwq : (s.reportFault w cause).pwq = s.pwq := (congrArg State.pwq (s.reportFault_frame w cause) :)
@[simp] theorem State.reportFault_lastSequence : (s.reportFault w cause).lastSequence = s.lastSequence := (congrArg State.lastSequence (s.reportFault_frame w cause) :)
@[simp] theorem State.reportFault_claim : (s.reportFault w cause).claim = s.claim := (congrArg State.claim (s.reportFault_frame w cause) :)
@[simp] theorem State.reportFault_mem : (s.reportFault w cause).mem = s.mem := (congrArg State.mem (s.reportFault_frame w cause) :)
@[simp] theorem State.reportFault_store : (s.reportFault w cause).store = s.store := (congrArg State.store (s.reportFault_frame w cause) :)
@[simp] theorem State.reportFault_lastPosition : (s.reportFault w cause).lastPosition = s.lastPosition := (congrArg State.lastPosition (s.reportFault_frame w cause) :)
@[simp] theorem State.reportFault_xbm : (s.reportFault w cause).xbm = s.xbm := (congrArg State.xbm (s.reportFault_frame w cause) :)
@[simp] theorem State.reportFault_resetInput : (s.reportFault w cause).resetInput = s.resetInput := (congrArg State.resetInput (s.reportFault_frame w cause) :)
@[simp] theorem State.reportFault_clearing : (s.reportFault w cause).clearing = s.clearing := (congrArg State.clearing (s.reportFault_frame w cause) :)
@[simp] theorem State.reportFault_busItems : (s.reportFault w cause).busItems = s.busItems := (congrArg State.busItems (s.reportFault_frame w cause) :)
@[simp] theorem State.reportFault_choices : (s.reportFault w cause).choices = s.choices := (congrArg State.choices (s.reportFault_frame w cause) :)
@[simp] theorem State.reportFault_pending : (s.reportFault w cause).pending = s.pending := (congrArg State.pending (s.reportFault_frame w cause) :)

end

theorem State.completeDrain_frame (s : State) (fault : Option FaultCause) :
    s.completeDrain fault = { s with ports := (s.completeDrain fault).ports, windows := (s.completeDrain fault).windows, drt := (s.completeDrain fault).drt, pwq := (s.completeDrain fault).pwq } := by
  unfold State.completeDrain; split
  · rfl
  · simp only []
    split
    · rw [State.endDraining_frame, State.reportFault_frame]; rfl
    · rw [State.endDraining_frame]; rfl

section

variable (s : State) (fault : Option FaultCause)

@[simp] theorem State.completeDrain_discardInterval : (s.completeDrain fault).discardInterval = s.discardInterval := (congrArg State.discardInterval (s.completeDrain_frame fault) :)
@[simp] theorem State.completeDrain_lastSequence : (s.completeDrain fault).lastSequence = s.lastSequence := (congrArg State.lastSequence (s.completeDrain_frame fault) :)
@[simp] theorem State.completeDrain_claim : (s.completeDrain fault).claim = s.claim := (congrArg State.claim (s.completeDrain_frame fault) :)
@[simp] theorem State.completeDrain_mem : (s.completeDrain fault).mem = s.mem := (congrArg State.mem (s.completeDrain_frame fault) :)
@[simp] theorem State.completeDrain_store : (s.completeDrain fault).store = s.store := (congrArg State.store (s.completeDrain_frame fault) :)
@[simp] theorem State.completeDrain_lastPosition : (s.completeDrain fault).lastPosition = s.lastPosition := (congrArg State.lastPosition (s.completeDrain_frame fault) :)
@[simp] theorem State.completeDrain_xbm : (s.completeDrain fault).xbm = s.xbm := (congrArg State.xbm (s.completeDrain_frame fault) :)
@[simp] theorem State.completeDrain_resetInput : (s.completeDrain fault).resetInput = s.resetInput := (congrArg State.resetInput (s.completeDrain_frame fault) :)
@[simp] theorem State.completeDrain_clearing : (s.completeDrain fault).clearing = s.clearing := (congrArg State.clearing (s.completeDrain_frame fault) :)
@[simp] theorem State.completeDrain_busItems : (s.completeDrain fault).busItems = s.busItems := (congrArg State.busItems (s.completeDrain_frame fault) :)
@[simp] theorem State.completeDrain_choices : (s.completeDrain fault).choices = s.choices := (congrArg State.choices (s.completeDrain_frame fault) :)
@[simp] theorem State.completeDrain_pending : (s.completeDrain fault).pending = s.pending := (congrArg State.pending (s.completeDrain_frame fault) :)

end

theorem State.completeFetch_frame (s : State) (r : Resource) (result : FetchResult) :
    s.completeFetch r result = { s with ports := (s.completeFetch r result).ports, windows := (s.completeFetch r result).windows, drt := (s.completeFetch r result).drt } := by
  unfold State.completeFetch; split
  · rfl
  · split
    · rfl
    · rfl
    · exact State.freeEntry_frame ..

section

variable (s : State) (r : Resource) (result : FetchResult)

@[simp] theorem State.completeFetch_discardInterval : (s.completeFetch r result).discardInterval = s.discardInterval := (congrArg State.discardInterval (s.completeFetch_frame r result) :)
@[simp] theorem State.completeFetch_pwq : (s.completeFetch r result).pwq = s.pwq := (congrArg State.pwq (s.completeFetch_frame r result) :)
@[simp] theorem State.completeFetch_lastSequence : (s.completeFetch r result).lastSequence = s.lastSequence := (congrArg State.lastSequence (s.completeFetch_frame r result) :)
@[simp] theorem State.completeFetch_claim : (s.completeFetch r result).claim = s.claim := (congrArg State.claim (s.completeFetch_frame r result) :)
@[simp] theorem State.completeFetch_mem : (s.completeFetch r result).mem = s.mem := (congrArg State.mem (s.completeFetch_frame r result) :)
@[simp] theorem State.completeFetch_store : (s.completeFetch r result).store = s.store := (congrArg State.store (s.completeFetch_frame r result) :)
@[simp] theorem State.completeFetch_lastPosition : (s.completeFetch r result).lastPosition = s.lastPosition := (congrArg State.lastPosition (s.completeFetch_frame r result) :)
@[simp] theorem State.completeFetch_xbm : (s.completeFetch r result).xbm = s.xbm := (congrArg State.xbm (s.completeFetch_frame r result) :)
@[simp] theorem State.completeFetch_resetInput : (s.completeFetch r result).resetInput = s.resetInput := (congrArg State.resetInput (s.completeFetch_frame r result) :)
@[simp] theorem State.completeFetch_clearing : (s.completeFetch r result).clearing = s.clearing := (congrArg State.clearing (s.completeFetch_frame r result) :)
@[simp] theorem State.completeFetch_busItems : (s.completeFetch r result).busItems = s.busItems := (congrArg State.busItems (s.completeFetch_frame r result) :)
@[simp] theorem State.completeFetch_choices : (s.completeFetch r result).choices = s.choices := (congrArg State.choices (s.completeFetch_frame r result) :)
@[simp] theorem State.completeFetch_pending : (s.completeFetch r result).pending = s.pending := (congrArg State.pending (s.completeFetch_frame r result) :)

end

theorem State.completeTransaction_frame (s : State) (t : Transaction) (how : BusEnd) :
    s.completeTransaction t how = { s with ports := (s.completeTransaction t how).ports, windows := (s.completeTransaction t how).windows, drt := (s.completeTransaction t how).drt, pwq := (s.completeTransaction t how).pwq, xbm := (s.completeTransaction t how).xbm } := by
  unfold State.completeTransaction; simp only []; split
  · rw [State.completeDrain_frame]
  · rw [State.completeFetch_frame]

section

variable (s : State) (t : Transaction) (how : BusEnd)

@[simp] theorem State.completeTransaction_discardInterval : (s.completeTransaction t how).discardInterval = s.discardInterval := (congrArg State.discardInterval (s.completeTransaction_frame t how) :)
@[simp] theorem State.completeTransaction_lastSequence : (s.completeTransaction t how).lastSequence = s.lastSequence := (congrArg State.lastSequence (s.completeTransaction_frame t how) :)
@[simp] theorem State.completeTransaction_claim : (s.completeTransaction t how).claim = s.claim := (congrArg State.claim (s.completeTransaction_frame t how) :)
@[simp] theorem State.completeTransaction_mem : (s.completeTransaction t how).mem = s.mem := (congrArg State.mem (s.completeTransaction_frame t how) :)
@[simp] theorem State.completeTransaction_store : (s.completeTransaction t how).store = s.store := (congrArg State.store (s.completeTransaction_frame t how) :)
@[simp] theorem State.completeTransaction_lastPosition : (s.completeTransaction t how).lastPosition = s.lastPosition := (congrArg State.lastPosition (s.completeTransaction_frame t how) :)
@[simp] theorem State.completeTransaction_resetInput : (s.completeTransaction t how).resetInput = s.resetInput := (congrArg State.resetInput (s.completeTransaction_frame t how) :)
@[simp] theorem State.completeTransaction_clearing : (s.completeTransaction t how).clearing = s.clearing := (congrArg State.clearing (s.completeTransaction_frame t how) :)
@[simp] theorem State.completeTransaction_busItems : (s.completeTransaction t how).busItems = s.busItems := (congrArg State.busItems (s.completeTransaction_frame t how) :)
@[simp] theorem State.completeTransaction_choices : (s.completeTransaction t how).choices = s.choices := (congrArg State.choices (s.completeTransaction_frame t how) :)
@[simp] theorem State.completeTransaction_pending : (s.completeTransaction t how).pending = s.pending := (congrArg State.pending (s.completeTransaction_frame t how) :)

end

theorem State.completeRead_frame (s : State) (p : PortId) :
    s.completeRead p = { s with ports := (s.completeRead p).ports } := by
  unfold State.completeRead; split
  · rfl
  · split <;> rfl

section

variable (s : State) (p : PortId)

@[simp] theorem State.completeRead_windows : (s.completeRead p).windows = s.windows := (congrArg State.windows (s.completeRead_frame p) :)
@[simp] theorem State.completeRead_drt : (s.completeRead p).drt = s.drt := (congrArg State.drt (s.completeRead_frame p) :)
@[simp] theorem State.completeRead_discardInterval : (s.completeRead p).discardInterval = s.discardInterval := (congrArg State.discardInterval (s.completeRead_frame p) :)
@[simp] theorem State.completeRead_pwq : (s.completeRead p).pwq = s.pwq := (congrArg State.pwq (s.completeRead_frame p) :)
@[simp] theorem State.completeRead_lastSequence : (s.completeRead p).lastSequence = s.lastSequence := (congrArg State.lastSequence (s.completeRead_frame p) :)
@[simp] theorem State.completeRead_claim : (s.completeRead p).claim = s.claim := (congrArg State.claim (s.completeRead_frame p) :)
@[simp] theorem State.completeRead_mem : (s.completeRead p).mem = s.mem := (congrArg State.mem (s.completeRead_frame p) :)
@[simp] theorem State.completeRead_store : (s.completeRead p).store = s.store := (congrArg State.store (s.completeRead_frame p) :)
@[simp] theorem State.completeRead_lastPosition : (s.completeRead p).lastPosition = s.lastPosition := (congrArg State.lastPosition (s.completeRead_frame p) :)
@[simp] theorem State.completeRead_xbm : (s.completeRead p).xbm = s.xbm := (congrArg State.xbm (s.completeRead_frame p) :)
@[simp] theorem State.completeRead_resetInput : (s.completeRead p).resetInput = s.resetInput := (congrArg State.resetInput (s.completeRead_frame p) :)
@[simp] theorem State.completeRead_clearing : (s.completeRead p).clearing = s.clearing := (congrArg State.clearing (s.completeRead_frame p) :)
@[simp] theorem State.completeRead_busItems : (s.completeRead p).busItems = s.busItems := (congrArg State.busItems (s.completeRead_frame p) :)
@[simp] theorem State.completeRead_choices : (s.completeRead p).choices = s.choices := (congrArg State.choices (s.completeRead_frame p) :)
@[simp] theorem State.completeRead_pending : (s.completeRead p).pending = s.pending := (congrArg State.pending (s.completeRead_frame p) :)

end

theorem State.completeStoreWrite_frame (s : State) :
    s.completeStoreWrite = { s with ports := s.completeStoreWrite.ports, windows := s.completeStoreWrite.windows, drt := s.completeStoreWrite.drt, pwq := s.completeStoreWrite.pwq, mem := s.completeStoreWrite.mem } := by
  unfold State.completeStoreWrite; split
  · rw [State.completeDrain_frame]
  · rfl

section

variable (s : State)

@[simp] theorem State.completeStoreWrite_discardInterval : s.completeStoreWrite.discardInterval = s.discardInterval := (congrArg State.discardInterval (s.completeStoreWrite_frame) :)
@[simp] theorem State.completeStoreWrite_lastSequence : s.completeStoreWrite.lastSequence = s.lastSequence := (congrArg State.lastSequence (s.completeStoreWrite_frame) :)
@[simp] theorem State.completeStoreWrite_claim : s.completeStoreWrite.claim = s.claim := (congrArg State.claim (s.completeStoreWrite_frame) :)
@[simp] theorem State.completeStoreWrite_store : s.completeStoreWrite.store = s.store := (congrArg State.store (s.completeStoreWrite_frame) :)
@[simp] theorem State.completeStoreWrite_lastPosition : s.completeStoreWrite.lastPosition = s.lastPosition := (congrArg State.lastPosition (s.completeStoreWrite_frame) :)
@[simp] theorem State.completeStoreWrite_xbm : s.completeStoreWrite.xbm = s.xbm := (congrArg State.xbm (s.completeStoreWrite_frame) :)
@[simp] theorem State.completeStoreWrite_resetInput : s.completeStoreWrite.resetInput = s.resetInput := (congrArg State.resetInput (s.completeStoreWrite_frame) :)
@[simp] theorem State.completeStoreWrite_clearing : s.completeStoreWrite.clearing = s.clearing := (congrArg State.clearing (s.completeStoreWrite_frame) :)
@[simp] theorem State.completeStoreWrite_busItems : s.completeStoreWrite.busItems = s.busItems := (congrArg State.busItems (s.completeStoreWrite_frame) :)
@[simp] theorem State.completeStoreWrite_choices : s.completeStoreWrite.choices = s.choices := (congrArg State.choices (s.completeStoreWrite_frame) :)
@[simp] theorem State.completeStoreWrite_pending : s.completeStoreWrite.pending = s.pending := (congrArg State.pending (s.completeStoreWrite_frame) :)

end

theorem State.completeStoreFetch_frame (s : State) :
    s.completeStoreFetch = { s with ports := s.completeStoreFetch.ports, windows := s.completeStoreFetch.windows, drt := s.completeStoreFetch.drt, mem := s.completeStoreFetch.mem } := by
  unfold State.completeStoreFetch; split
  · rfl
  · split
    · rw [State.completeFetch_frame]
    · rw [State.completeFetch_frame]

section

variable (s : State)

@[simp] theorem State.completeStoreFetch_discardInterval : s.completeStoreFetch.discardInterval = s.discardInterval := (congrArg State.discardInterval (s.completeStoreFetch_frame) :)
@[simp] theorem State.completeStoreFetch_pwq : s.completeStoreFetch.pwq = s.pwq := (congrArg State.pwq (s.completeStoreFetch_frame) :)
@[simp] theorem State.completeStoreFetch_lastSequence : s.completeStoreFetch.lastSequence = s.lastSequence := (congrArg State.lastSequence (s.completeStoreFetch_frame) :)
@[simp] theorem State.completeStoreFetch_claim : s.completeStoreFetch.claim = s.claim := (congrArg State.claim (s.completeStoreFetch_frame) :)
@[simp] theorem State.completeStoreFetch_store : s.completeStoreFetch.store = s.store := (congrArg State.store (s.completeStoreFetch_frame) :)
@[simp] theorem State.completeStoreFetch_lastPosition : s.completeStoreFetch.lastPosition = s.lastPosition := (congrArg State.lastPosition (s.completeStoreFetch_frame) :)
@[simp] theorem State.completeStoreFetch_xbm : s.completeStoreFetch.xbm = s.xbm := (congrArg State.xbm (s.completeStoreFetch_frame) :)
@[simp] theorem State.completeStoreFetch_resetInput : s.completeStoreFetch.resetInput = s.resetInput := (congrArg State.resetInput (s.completeStoreFetch_frame) :)
@[simp] theorem State.completeStoreFetch_clearing : s.completeStoreFetch.clearing = s.clearing := (congrArg State.clearing (s.completeStoreFetch_frame) :)
@[simp] theorem State.completeStoreFetch_busItems : s.completeStoreFetch.busItems = s.busItems := (congrArg State.busItems (s.completeStoreFetch_frame) :)
@[simp] theorem State.completeStoreFetch_choices : s.completeStoreFetch.choices = s.choices := (congrArg State.choices (s.completeStoreFetch_frame) :)
@[simp] theorem State.completeStoreFetch_pending : s.completeStoreFetch.pending = s.pending := (congrArg State.pending (s.completeStoreFetch_frame) :)

end

theorem State.completeAccess_frame (s : State) (pos : Position) :
    s.completeAccess pos = { s with ports := (s.completeAccess pos).ports, windows := (s.completeAccess pos).windows, drt := (s.completeAccess pos).drt, pwq := (s.completeAccess pos).pwq, mem := (s.completeAccess pos).mem, store := (s.completeAccess pos).store } := by
  unfold State.completeAccess; simp only []; split
  · rw [State.completeRead_frame]
  · rw [State.completeStoreWrite_frame]
  · rw [State.completeStoreFetch_frame]

section

variable (s : State) (pos : Position)

@[simp] theorem State.completeAccess_discardInterval : (s.completeAccess pos).discardInterval = s.discardInterval := (congrArg State.discardInterval (s.completeAccess_frame pos) :)
@[simp] theorem State.completeAccess_lastSequence : (s.completeAccess pos).lastSequence = s.lastSequence := (congrArg State.lastSequence (s.completeAccess_frame pos) :)
@[simp] theorem State.completeAccess_claim : (s.completeAccess pos).claim = s.claim := (congrArg State.claim (s.completeAccess_frame pos) :)
@[simp] theorem State.completeAccess_lastPosition : (s.completeAccess pos).lastPosition = s.lastPosition := (congrArg State.lastPosition (s.completeAccess_frame pos) :)
@[simp] theorem State.completeAccess_xbm : (s.completeAccess pos).xbm = s.xbm := (congrArg State.xbm (s.completeAccess_frame pos) :)
@[simp] theorem State.completeAccess_resetInput : (s.completeAccess pos).resetInput = s.resetInput := (congrArg State.resetInput (s.completeAccess_frame pos) :)
@[simp] theorem State.completeAccess_clearing : (s.completeAccess pos).clearing = s.clearing := (congrArg State.clearing (s.completeAccess_frame pos) :)
@[simp] theorem State.completeAccess_busItems : (s.completeAccess pos).busItems = s.busItems := (congrArg State.busItems (s.completeAccess_frame pos) :)
@[simp] theorem State.completeAccess_choices : (s.completeAccess pos).choices = s.choices := (congrArg State.choices (s.completeAccess_frame pos) :)
@[simp] theorem State.completeAccess_pending : (s.completeAccess pos).pending = s.pending := (congrArg State.pending (s.completeAccess_frame pos) :)

end

/-! ## Timers and reset -/

theorem State.expireTag_frame (s : State) (t : Tag) :
    s.expireTag t = { s with ports := (s.expireTag t).ports, windows := (s.expireTag t).windows, drt := (s.expireTag t).drt, choices := (s.expireTag t).choices } := by
  unfold State.expireTag; split
  · exact State.expireEntry_frame ..
  · rfl

section

variable (s : State) (t : Tag)

@[simp] theorem State.expireTag_discardInterval : (s.expireTag t).discardInterval = s.discardInterval := (congrArg State.discardInterval (s.expireTag_frame t) :)
@[simp] theorem State.expireTag_pwq : (s.expireTag t).pwq = s.pwq := (congrArg State.pwq (s.expireTag_frame t) :)
@[simp] theorem State.expireTag_lastSequence : (s.expireTag t).lastSequence = s.lastSequence := (congrArg State.lastSequence (s.expireTag_frame t) :)
@[simp] theorem State.expireTag_claim : (s.expireTag t).claim = s.claim := (congrArg State.claim (s.expireTag_frame t) :)
@[simp] theorem State.expireTag_mem : (s.expireTag t).mem = s.mem := (congrArg State.mem (s.expireTag_frame t) :)
@[simp] theorem State.expireTag_store : (s.expireTag t).store = s.store := (congrArg State.store (s.expireTag_frame t) :)
@[simp] theorem State.expireTag_lastPosition : (s.expireTag t).lastPosition = s.lastPosition := (congrArg State.lastPosition (s.expireTag_frame t) :)
@[simp] theorem State.expireTag_xbm : (s.expireTag t).xbm = s.xbm := (congrArg State.xbm (s.expireTag_frame t) :)
@[simp] theorem State.expireTag_resetInput : (s.expireTag t).resetInput = s.resetInput := (congrArg State.resetInput (s.expireTag_frame t) :)
@[simp] theorem State.expireTag_clearing : (s.expireTag t).clearing = s.clearing := (congrArg State.clearing (s.expireTag_frame t) :)
@[simp] theorem State.expireTag_busItems : (s.expireTag t).busItems = s.busItems := (congrArg State.busItems (s.expireTag_frame t) :)
@[simp] theorem State.expireTag_pending : (s.expireTag t).pending = s.pending := (congrArg State.pending (s.expireTag_frame t) :)

end

theorem State.expireDueLease_frame (s : State) :
    s.expireDueLease = { s with ports := s.expireDueLease.ports, claim := s.expireDueLease.claim } := by
  unfold State.expireDueLease; split
  · split <;> rfl
  · rfl

section

variable (s : State)

@[simp] theorem State.expireDueLease_windows : s.expireDueLease.windows = s.windows := (congrArg State.windows (s.expireDueLease_frame) :)
@[simp] theorem State.expireDueLease_drt : s.expireDueLease.drt = s.drt := (congrArg State.drt (s.expireDueLease_frame) :)
@[simp] theorem State.expireDueLease_discardInterval : s.expireDueLease.discardInterval = s.discardInterval := (congrArg State.discardInterval (s.expireDueLease_frame) :)
@[simp] theorem State.expireDueLease_pwq : s.expireDueLease.pwq = s.pwq := (congrArg State.pwq (s.expireDueLease_frame) :)
@[simp] theorem State.expireDueLease_lastSequence : s.expireDueLease.lastSequence = s.lastSequence := (congrArg State.lastSequence (s.expireDueLease_frame) :)
@[simp] theorem State.expireDueLease_mem : s.expireDueLease.mem = s.mem := (congrArg State.mem (s.expireDueLease_frame) :)
@[simp] theorem State.expireDueLease_store : s.expireDueLease.store = s.store := (congrArg State.store (s.expireDueLease_frame) :)
@[simp] theorem State.expireDueLease_lastPosition : s.expireDueLease.lastPosition = s.lastPosition := (congrArg State.lastPosition (s.expireDueLease_frame) :)
@[simp] theorem State.expireDueLease_xbm : s.expireDueLease.xbm = s.xbm := (congrArg State.xbm (s.expireDueLease_frame) :)
@[simp] theorem State.expireDueLease_resetInput : s.expireDueLease.resetInput = s.resetInput := (congrArg State.resetInput (s.expireDueLease_frame) :)
@[simp] theorem State.expireDueLease_clearing : s.expireDueLease.clearing = s.clearing := (congrArg State.clearing (s.expireDueLease_frame) :)
@[simp] theorem State.expireDueLease_busItems : s.expireDueLease.busItems = s.busItems := (congrArg State.busItems (s.expireDueLease_frame) :)
@[simp] theorem State.expireDueLease_choices : s.expireDueLease.choices = s.choices := (congrArg State.choices (s.expireDueLease_frame) :)
@[simp] theorem State.expireDueLease_pending : s.expireDueLease.pending = s.pending := (congrArg State.pending (s.expireDueLease_frame) :)

end

theorem State.clearDevice_frame (s : State) :
    s.clearDevice = { s with ports := s.clearDevice.ports, windows := s.clearDevice.windows, drt := s.clearDevice.drt, discardInterval := s.clearDevice.discardInterval, pwq := s.clearDevice.pwq, lastSequence := s.clearDevice.lastSequence, claim := s.clearDevice.claim, store := s.clearDevice.store, lastPosition := s.clearDevice.lastPosition, xbm := s.clearDevice.xbm } :=
  rfl

section

variable (s : State)

@[simp] theorem State.clearDevice_mem : s.clearDevice.mem = s.mem := (congrArg State.mem (s.clearDevice_frame) :)
@[simp] theorem State.clearDevice_resetInput : s.clearDevice.resetInput = s.resetInput := (congrArg State.resetInput (s.clearDevice_frame) :)
@[simp] theorem State.clearDevice_clearing : s.clearDevice.clearing = s.clearing := (congrArg State.clearing (s.clearDevice_frame) :)
@[simp] theorem State.clearDevice_busItems : s.clearDevice.busItems = s.busItems := (congrArg State.busItems (s.clearDevice_frame) :)
@[simp] theorem State.clearDevice_choices : s.clearDevice.choices = s.choices := (congrArg State.choices (s.clearDevice_frame) :)
@[simp] theorem State.clearDevice_pending : s.clearDevice.pending = s.pending := (congrArg State.pending (s.clearDevice_frame) :)

end

theorem State.deviceReset_frame (s : State) :
    s.deviceReset = { s with ports := s.deviceReset.ports, windows := s.deviceReset.windows, drt := s.deviceReset.drt, discardInterval := s.deviceReset.discardInterval, pwq := s.deviceReset.pwq, lastSequence := s.deviceReset.lastSequence, claim := s.deviceReset.claim, store := s.deviceReset.store, lastPosition := s.deviceReset.lastPosition, xbm := s.deviceReset.xbm, busItems := s.deviceReset.busItems, choices := s.deviceReset.choices } := by
  apply State.eq_of_fields
  · with_reducible rfl
  · with_reducible rfl
  · with_reducible rfl
  · with_reducible rfl
  · with_reducible rfl
  · with_reducible rfl
  · with_reducible rfl
  · simp [State.deviceReset]
  · with_reducible rfl
  · with_reducible rfl
  · with_reducible rfl
  · simp [State.deviceReset]
  · simp [State.deviceReset]
  · with_reducible rfl
  · with_reducible rfl
  · simp [State.deviceReset]

section

variable (s : State)

@[simp] theorem State.deviceReset_mem : s.deviceReset.mem = s.mem := (congrArg State.mem (s.deviceReset_frame) :)
@[simp] theorem State.deviceReset_resetInput : s.deviceReset.resetInput = s.resetInput := (congrArg State.resetInput (s.deviceReset_frame) :)
@[simp] theorem State.deviceReset_clearing : s.deviceReset.clearing = s.clearing := (congrArg State.clearing (s.deviceReset_frame) :)
@[simp] theorem State.deviceReset_pending : s.deviceReset.pending = s.pending := (congrArg State.pending (s.deviceReset_frame) :)

end

theorem State.releaseReset_frame (s : State) :
    s.releaseReset = { s with xbm := s.releaseReset.xbm } := by
  unfold State.releaseReset; split <;> rfl

section

variable (s : State)

@[simp] theorem State.releaseReset_ports : s.releaseReset.ports = s.ports := (congrArg State.ports (s.releaseReset_frame) :)
@[simp] theorem State.releaseReset_windows : s.releaseReset.windows = s.windows := (congrArg State.windows (s.releaseReset_frame) :)
@[simp] theorem State.releaseReset_drt : s.releaseReset.drt = s.drt := (congrArg State.drt (s.releaseReset_frame) :)
@[simp] theorem State.releaseReset_discardInterval : s.releaseReset.discardInterval = s.discardInterval := (congrArg State.discardInterval (s.releaseReset_frame) :)
@[simp] theorem State.releaseReset_pwq : s.releaseReset.pwq = s.pwq := (congrArg State.pwq (s.releaseReset_frame) :)
@[simp] theorem State.releaseReset_lastSequence : s.releaseReset.lastSequence = s.lastSequence := (congrArg State.lastSequence (s.releaseReset_frame) :)
@[simp] theorem State.releaseReset_claim : s.releaseReset.claim = s.claim := (congrArg State.claim (s.releaseReset_frame) :)
@[simp] theorem State.releaseReset_mem : s.releaseReset.mem = s.mem := (congrArg State.mem (s.releaseReset_frame) :)
@[simp] theorem State.releaseReset_store : s.releaseReset.store = s.store := (congrArg State.store (s.releaseReset_frame) :)
@[simp] theorem State.releaseReset_lastPosition : s.releaseReset.lastPosition = s.lastPosition := (congrArg State.lastPosition (s.releaseReset_frame) :)
@[simp] theorem State.releaseReset_resetInput : s.releaseReset.resetInput = s.resetInput := (congrArg State.resetInput (s.releaseReset_frame) :)
@[simp] theorem State.releaseReset_clearing : s.releaseReset.clearing = s.clearing := (congrArg State.clearing (s.releaseReset_frame) :)
@[simp] theorem State.releaseReset_busItems : s.releaseReset.busItems = s.busItems := (congrArg State.busItems (s.releaseReset_frame) :)
@[simp] theorem State.releaseReset_choices : s.releaseReset.choices = s.choices := (congrArg State.choices (s.releaseReset_frame) :)
@[simp] theorem State.releaseReset_pending : s.releaseReset.pending = s.pending := (congrArg State.pending (s.releaseReset_frame) :)

end

/-! ## What the small operations do -/

/-- Resolving whether a decided response has left sends it or leaves it, and counts the choice. -/
theorem State.resolve_cases (s : State) (p : PortId) :
    ((s.port p).decided = none ∧ s.resolve p = s) ∨
      ∃ r, (s.port p).decided = some r ∧ (s.resolve p = s.choose.send p ∨ s.resolve p = s.choose) := by
  unfold State.resolve
  split <;> rename_i h
  · refine Or.inr ⟨_, h, ?_⟩
    split
    · exact Or.inl rfl
    · exact Or.inr rfl
  · exact Or.inl ⟨h, rfl⟩

/-- What may have left a port by the time it is resolved, here or at another port. -/
theorem State.resolve_sent (s : State) (p q : PortId) :
    ∃ left, (s.port q).mayLeave left ∧ ((s.resolve p).port q).sent = (s.port q).sent ++ left := by
  rcases s.resolve_cases p with ⟨-, h⟩ | ⟨r, hd, h | h⟩
  · exact ⟨[], .inl rfl, by simp [h]⟩
  · by_cases hq : q = p
    · subst hq
      have hi : (s.port q).inHand = some (.decided r) := by
        unfold Port.decided at hd
        split at hd <;> simp_all
      exact ⟨[.response r], .inr ⟨r, hi, rfl⟩, by simp [h, Port.send_of_decided hi]⟩
    · exact ⟨[], .inl rfl, by simp [h, hq]⟩
  · exact ⟨[], .inl rfl, by simp [h]⟩

/-- Resolving one port leaves the others alone. -/
theorem State.port_resolve_ne (s : State) {p q : PortId} (h : q ≠ p) : (s.resolve p).port q = s.port q := by
  rcases s.resolve_cases p with ⟨-, h'⟩ | ⟨-, -, h' | h'⟩ <;> simp [h', h]

/-- Ending the draining of a window touches that window alone. -/
@[simp] theorem State.window_endDraining (s : State) (w v : WindowId) :
    (s.endDraining w).window v =
      if v = w ∧ (s.window w).drained = true then { s.window w with state := .disabled } else s.window v := by
  unfold State.endDraining
  split <;> rename_i h
  · by_cases hv : v = w <;> simp [hv, h]
  · simp [h]

/-- Ending the draining of a window announces it, or is nothing. -/
@[simp] theorem State.port_endDraining (s : State) (w : WindowId) (q : PortId) :
    (s.endDraining w).port q =
      if (s.window w).drained = true then (s.port q).offer (.windowChanged w .disabled) else s.port q := by
  unfold State.endDraining
  split <;> rename_i h <;> simp

/-- An entry that goes leaves the list and its window's reference count. -/
@[simp] theorem State.dropEntry_drt (s : State) (e : Entry) :
    (s.dropEntry e).drt = s.drt.filter (fun x => x.tag != e.tag) := rfl

@[simp] theorem State.window_dropEntry (s : State) (e : Entry) (w : WindowId) :
    (s.dropEntry e).window w =
      if w = e.window then { s.window w with refCount := (s.window w).refCount - 1 } else s.window w := by
  unfold State.dropEntry
  rw [State.window_releaseRef]
  by_cases h : w = e.window
  · subst h; rfl
  · simp only [h, if_false]; rfl

@[simp] theorem State.port_dropEntry (s : State) (e : Entry) (q : PortId) : (s.dropEntry e).port q = s.port q := rfl

@[simp] theorem State.freeEntry_drt' (s : State) (e : Entry) :
    (s.freeEntry e).drt = s.drt.filter (fun x => x.tag != e.tag) := by
  unfold State.freeEntry; rw [State.endDraining_drt]; rfl

/-- The record of the entry that a new phase is given to keeps every other field. -/
theorem State.mem_setPhase {s : State} {t : Tag} {phase : Phase} {x : Entry} :
    x ∈ (s.setPhase t phase).drt ↔
      ∃ e ∈ s.drt, x = if e.tag = t then { e with phase := phase } else e := by
  simp [State.setPhase, eq_comm]

/-- The record a queue keeps of an offered record: the record itself, a first OVERFLOW, or a count. -/
theorem appendRecord_cases (queue : List Record) (r : Record) :
    (∃ ahead n, queue = ahead ++ [.overflow n] ∧
      appendRecord queue r = ahead ++ [.overflow (if n < Config.overflowLimit then n + 1 else n)]) ∨
    ((∀ n, queue.getLast? ≠ some (.overflow n)) ∧
      appendRecord queue r =
        if queue.length < Config.recordLimit then queue ++ [r] else queue ++ [.overflow 1]) := by
  by_cases h : ∃ n, queue.getLast? = some (.overflow n)
  · obtain ⟨n, hn⟩ := h
    left
    have hq : queue = queue.dropLast ++ [.overflow n] := (List.dropLast_append_getLast? _ hn).symm
    refine ⟨queue.dropLast, n, hq, ?_⟩
    unfold appendRecord
    rw [hn]
    simp only []
    split
    · rfl
    · exact hq
  · right
    have h' : ∀ n, queue.getLast? ≠ some (.overflow n) := fun n hn => h ⟨n, hn⟩
    refine ⟨h', ?_⟩
    unfold appendRecord
    split
    · exact absurd ‹_› (h' _)
    · rfl

end Sys2Proof.Machine
end

