-- ==== Sys2Proof/Tests/Slice0.lean ====
section
/-! SUPPORT. The model's own tests, with values written out from the manual's encodings and worked examples, and for every
statement that has hypotheses a witness that meets them. -/

namespace Sys2Proof.Tests

open Sys2Proof Sys2Proof.Machine

/- The tests are checked one after another: each waits for the kernel, and every one that waits holds a thread's stack. -/
set_option Elab.async false

/-! ## Well-formed commands: the one check refuses a read beat of another length -/

theorem test_wellFormed_refuses_seven_bytes : (Instr.readBeat 0 [1, 2, 3, 4, 5, 6, 7]).wellFormed = false := by decide

theorem test_wellFormed_refuses_nine_bytes : (Instr.readBeat 0 [1, 2, 3, 4, 5, 6, 7, 8, 9]).wellFormed = false := by
  decide

theorem test_wellFormed_accepts_eight_bytes : (Instr.readBeat 0 [1, 2, 3, 4, 5, 6, 7, 8]).wellFormed = true := by decide

/-! ## Frames: the CRC check value of R174, and frames written out byte by byte from R175 to R177 -/

theorem test_crc_check_value : crc16 [0x31, 0x32, 0x33, 0x34, 0x35, 0x36, 0x37, 0x38, 0x39] = 0x29B1#16 := by
  decide +kernel

theorem test_read_frame :
    let f : Frame := [1, 0, 16, 0, 0, 64, 0, 128, 0, 0, 0, 0, 38, 236]
    readFrame 2147500032 16 = f ∧ f.row = .read ∧ f.addr = 2147500032 ∧ f.count = 16 ∧ f.wellFormed = true := by
  decide +kernel

/-- Bytes 1 and 9 to 11, and the high bits of byte 8, are ignored. -/
theorem test_write_frame :
    let f : Frame := [2, 238, 2, 0, 137, 103, 69, 35, 1, 0, 0, 0, 170, 85, 128, 34]
    f.row = .write ∧ f.addr = 0x123456789 ∧ f.payload .write = [170, 85] ∧ f.wellFormed = true := by decide +kernel

theorem test_swap_frame :
    let f : Frame := [3, 0, 0, 0, 8, 16, 0, 0, 0, 0, 0, 0, 1, 2, 3, 4, 5, 6, 7, 8, 9, 10, 11, 12, 13, 14, 15, 16, 137, 60]
    f.row = .swap ∧ f.addr = 4104 ∧ f.compareValue = [1, 2, 3, 4, 5, 6, 7, 8] ∧
      f.swapValue = [9, 10, 11, 12, 13, 14, 15, 16] ∧ f.wellFormed = true := by decide +kernel

theorem test_control_frames :
    let peek : Frame := [4, 0, 16, 0, 48, 0, 0, 0, 0, 0, 0, 0, 103, 91]
    let purge : Frame := [5, 0, 8, 0, 120, 0, 0, 0, 0, 0, 0, 0, 7, 3, 0, 0, 0, 0, 0, 0, 129, 3]
    peek.row = .ctlWrite ∧ Reg.ofOffset peek.offset = some .evpeek ∧ purge.row = .purge ∧
      Reg.ofOffset purge.offset = some .wcommit ∧ purge.payload .ctlWrite = [7, 3, 0, 0, 0, 0, 0, 0] := by decide +kernel

theorem test_done_response : (Response.done (some 300)).frame = [2, 0, 0, 0, 44, 1, 0, 0, 212, 241] := by decide +kernel

theorem test_discard_record :
    (Record.discard 4 2147500032 8 .expired (some true)).bytes = [2, 0, 1, 4, 3, 2, 8, 0, 0, 64, 0, 128, 0, 0, 0, 0] := by
  decide

/-- A range of 1 to 256 bytes within one block is well-formed; one byte more crosses the boundary. -/
theorem test_block_boundary :
    (readFrame 250 6).wellFormed = true ∧ (readFrame 250 7).wellFormed = false ∧ (readFrame 256 256).wellFormed = true ∧
      (readFrame 256 0).wellFormed = false := by decide +kernel

/-! ## Worked examples of beats, translation and overlap -/

theorem test_beats_of_ten_bytes :
    let t : Transaction := { stream := .drain, address := 1000005, count := 10, number := 0, phase := .address
                             beatsDone := 0, readData := [], remaining := 64 }
    t.beats = 2 ∧ t.positions 0 = [5, 6, 7] ∧ t.positions 1 = [0, 1, 2, 3, 4, 5, 6] ∧
      { t with address := 1056768, count := 64 }.beats = 8 := by decide

theorem test_overlap_of_ranges : rangesOverlap 4200 16 4160 64 = true ∧ rangesOverlap 4224 16 4160 64 = false := by decide

/-! ## Small states -/

/-- A port with nothing in it. -/
def port (st : PortState) : Port := { Port.reset [] with state := st }

/-- Ports 0 and 1 ONLINE, 2 ATTACHED, 3 OFFLINE; window 0 onto the store and window 1 onto the expansion bus ENABLED,
window 2 DRAINING; port 0 holds the claim. -/
def base : State :=
  { State.reset with
    ports := #v[port .online, port .online, port .attached, port .offline]
    windows := (((Vector.replicate 16 Window.reset).set 0
      { state := .enabled, bridgeBase := 0, size := 65536, resource := .ls, destBase := 0
        rights := #v[.atomic, .read, .none, .none], refCount := 0 }).set 1
      { state := .enabled, bridgeBase := 2147483648, size := 131072, resource := .xb, destBase := 131072
        rights := #v[.atomic, .none, .none, .none], refCount := 0 }).set 2
      { state := .draining, bridgeBase := 1048576, size := 4096, resource := .ls, destBase := 65536
        rights := #v[.read, .read, .none, .none], refCount := 1 }
    claim := { held := some { holder := 0, remaining := 250000, due := false }, interval := 250 } }

/-- A frame at the head of a port's buffer. -/
def give (s : State) (p : PortId) (f : Frame) : State :=
  s.modifyPort p (fun port => { port with buffer := [f] })

/-- The 8 bytes of a control value whose first bytes are given. -/
def value (l : List Byte) : List Byte := (l ++ List.replicate 8 0).take 8

/-- A control write at the head of a port's buffer. -/
def give8 (s : State) (p : PortId) (r : Reg) (v : List Byte) : State := give s p (ctlWriteFrame r.offset (value v))

/-- A staging record at a port. -/
def staged (s : State) (p : PortId) (st : Staging) : State := s.modifyPort p (fun port => { port with staging := st })

/-- A READ entry of port 0 on window 0, in a state. -/
def readEntry (tag : Tag) (phase : Phase) : Entry :=
  { tag := tag, owner := 0, kind := .read, addr := 4096, count := 16, window := 0, resource := .ls, dest := 4096
    fresh := 0, phase := phase }

/-- A SWAP entry of port 0 on window 0, in a state. -/
def swapEntry (tag : Tag) (phase : Phase) : Entry :=
  { tag := tag, owner := 0, kind := .swap (value [1]) (value [2]), addr := 8192, count := 8, window := 0, resource := .ls
    dest := 8192, fresh := 0, phase := phase }

/-- A posted write of a port, through a window, at an address. -/
def posted (sequence : BitVec 16) (p : PortId) (w : WindowId) (addr : Nat) (r : Resource) (dest : Nat) (inFlight : Bool) :
    PostedWrite :=
  { sequence := sequence, source := p, window := w, addr := addr, resource := r, dest := dest, data := [1, 2, 3, 4]
    inFlight := inFlight }

/-- A write transaction for the head of the queue of `busy`. -/
def writing (phase : BusPhase) (remaining : Nat) : Transaction :=
  { stream := .drain, address := 147456, count := 4, number := 5, phase := phase, beatsDone := 0, readData := []
    remaining := remaining }

/-- A lawful state in the middle of things: a write on the expansion bus and one behind it, a READ that waits for the
second, a SWAP on the store, a READY result on the DRAINING window, an immediate read in hand at port 1. -/
def busy : State :=
  { base with
    ports := #v[{ port .online with buffer := [readFrame 4096 16] },
      { port .online with
        buffer := [readFrame 0 16], inHand := some (.read { offset := 0, count := 16 }), queue := [.windowChanged 2 .draining] },
      port .attached, port .offline]
    windows := (base.windows.set 0 { base.windows[0] with refCount := 3 }).set 1 { base.windows[1] with refCount := 1 }
    drt := [{ readEntry 0 (.waiting 2) with fresh := 1 }, swapEntry 1 (.fetching none),
      { readEntry 2 (.ready (.ok [1, 2, 3, 4, 5, 6, 7, 8] none) 100) with
        owner := 1, addr := 1048576, count := 8, window := 2, dest := 65536 }]
    pwq := [posted 300 0 1 2147500032 .xb 147456 true, posted 301 0 0 4096 .ls 4096 false]
    lastSequence := 301
    mem := [(8192, 1#8)]
    store := some .fetch
    xbm := { bus := .active (writing .data 64), lastNumber := 5, timeout := 64, lastStream := .drain }
    pending := [.lsAccessCompletion] }

/-- Whether a command answers a next state that passes a check. -/
def runs (c : Instr) (s : State) (check : State → Bool) : Bool :=
  match exec c s with
  | .next t => check t
  | _ => false

/-- What a port has decided to answer, and has not yet sent. -/
def answers (s : State) (p : PortId) (r : Response) : Bool := (s.port p).inHand == some (.decided r) && (s.port p).sent.isEmpty

/-- Whether the step after a command, with nothing more waiting, leads to a state that passes a check. -/
def thenIdles (c : Instr) (s : State) (check : State → Bool) : Bool :=
  runs c s (fun t => match step { t with pending := [] } with
    | .next u => check u
    | _ => false)

/-! ## Reset, the timebase and the expiries -/

/-- Device reset in force, by the input or by the clearing. -/
def resetting (input clearing : Bool) : State :=
  { State.reset with resetInput := input, clearing := clearing, xbm := Xbm.reset .reset }

theorem test_powerOn : runs .powerOn busy (fun t =>
    t.clearing && t.busResetOutput && t.drt.isEmpty && t.claim.held.isNone && t.mem.isEmpty) = true := by decide +kernel

theorem test_storeClearingComplete :
    runs .storeClearingComplete (resetting false true) (fun t => !t.inReset && t.xbm.bus == .idle) = true ∧
      runs .storeClearingComplete (resetting true true) (fun t => t.inReset && t.xbm.bus == .reset) = true := by
  decide +kernel

theorem test_resetInputAsserted_keeps_the_store : runs .resetInputAsserted busy (fun t =>
    t.inReset && t.mem == [(8192, 1#8)] && t.pwq.isEmpty && (t.port 0).state == .offline) = true := by decide +kernel

theorem test_resetInputDeasserted :
    runs .resetInputDeasserted (resetting true false) (fun t => !t.inReset && t.xbm.bus == .idle) = true := by
  decide +kernel

theorem test_timebaseUnit : runs .timebaseUnit busy (fun t =>
    t.claim.held == some { holder := 0, remaining := 249999, due := false } && t.xbm.bus == .active (writing .data 63) &&
      t.drt.map Entry.phase ==
        [.waiting 2, .fetching none, .ready (.ok [1, 2, 3, 4, 5, 6, 7, 8] none) 99]) = true := by decide +kernel

/-- The only entry is READY with its discard time at 0. -/
def due : State :=
  { base with
    drt := [{ swapEntry 4 (.ready (.ok (value []) (some .exchanged)) 0) with addr := 2147500032 }]
    windows := base.windows.set 0 { base.windows[0] with refCount := 1 } }

theorem test_discardExpiry : runs (.discardExpiry 4) due (fun t =>
    t.drt.isEmpty && (t.window 0).refCount == 0 &&
      (t.port 0).queue == [.discard 4 2147500032 8 .expired (some true)]) = true := by decide +kernel

/-- The lease of port 0 has run out, or has one unit left. -/
def leaseAt (due : Bool) : State :=
  { base with claim := { held := some { holder := 0, remaining := 1, due := due }, interval := 250 } }

/-- The last unit of a lease makes its expiry due, and the claim is held with 1 us to show until it is taken. -/
theorem test_timebaseUnit_ends_the_lease : runs .timebaseUnit (leaseAt false) (fun t =>
    t.claim.held == some { holder := 0, remaining := 1, due := true } && t.leaseShown == 1) = true := by decide +kernel

theorem test_leaseExpiry : runs .leaseExpiry (leaseAt true) (fun t =>
    t.claim.held.isNone && (t.port 0).queue == [.claimExpired] && (t.port 1).queue == [.claimFreed 0] &&
      (t.port 2).queue.isEmpty) = true := by decide +kernel

/-! ## Links -/

theorem test_linkUp : runs (.linkUp 3) base (fun t => (t.port 3).state == .attached && (t.port 3).credits == 4) = true := by
  decide +kernel

/-- The RETRY of port 0 for its READ is decided and has not left. -/
def answered : State := busy.modifyPort 0 (fun port => { port with inHand := some (.decided (.retry .pending)) })

/-- The same is left with a response decided, whether or not it has left before. -/
theorem test_linkDown_tears_the_port_down : ∀ s ∈ [busy, answered], runs (.linkDown 0 .hostReset) s (fun t =>
    (t.port 0).state == .offline && (t.port 0).inHand.isNone && t.claim.held.isNone && t.pwq.length == 2 &&
      t.drt.map Entry.phase == [.orphaned, .ready (.ok [1, 2, 3, 4, 5, 6, 7, 8] none) 100] &&
      (t.port 1).queue == [.windowChanged 2 .draining, .portLeft 0 .link, .claimFreed 0]) = true := by
  have h : (answered.sendOthers 0).choices = answered.choices := rfl
  simp only [List.forall_mem_cons, List.not_mem_nil, false_implies, implies_true, and_true, runs, exec, execLinkDown,
    State.linkDown, State.resolve, h]
  cases Config.responseLeft answered.choices <;> decide +kernel

/-- An immediate read of port 1 is on the store. -/
def reading : State := { busy with store := some (.port 1), drt := [], pwq := [] }

theorem test_linkDown_drops_the_read :
    runs (.linkDown 1 .loss) reading (fun t => (t.port 1).dropped &&
      runs .lsAccessCompletion t (fun u => u.store.isNone && (u.port 1).sent.isEmpty && !(u.port 1).dropped)) = true := by
  decide +kernel

theorem test_idle_lets_the_response_leave :
    (match step { answered with pending := [] } with
      | .next t => (t.port 0).sent == [.response (.retry .pending)] && (t.port 0).buffer.isEmpty && (t.port 0).inHand.isNone &&
          (t.port 0).credits == 4 && (t.port 1).inHand.isSome
      | _ => false) = true := by decide +kernel

/-- The next frame is taken after the earlier response has left. -/
theorem test_taking_lets_the_response_leave :
    runs (.resend 0) (answered.modifyPort 0 (fun port => { port with buffer := [readFrame 4096 16, [1, 2]] })) (fun t =>
      (t.port 0).sent == [.response (.retry .pending)] && (t.port 0).buffer == [[1, 2]] &&
        (t.port 0).inHand == some (.decided .resend)) = true := by decide +kernel

/-- Whatever the next command is, here another port's taking, a frame's arrival and a completion, the response has left. -/
theorem test_any_command_lets_the_response_leave :
    ∀ c ∈ [Instr.resend 2, .frameArrival 0 [9], .lsAccessCompletion, .linkDown 1 .loss, .leave 3],
      runs c answered (fun t => (t.port 0).sent == [.response (.retry .pending)] && (t.port 0).inHand.isNone) = true := by
  decide +kernel

theorem test_frameArrival : runs (.frameArrival 0 [9]) busy (fun t =>
    (t.port 0).buffer == [readFrame 4096 16, [9]] && (t.port 0).credits == 2) = true := by decide +kernel

theorem test_frameArrival_overrun :
    runs (.frameArrival 2 [9]) (base.modifyPort 2 (fun port => { port with buffer := [[1], [2], [3], [4]] })) (fun t =>
      (t.port 2).state == .offline && (t.port 2).sent == [.linkFault] && (t.port 2).buffer.isEmpty) = true := by
  decide +kernel

/-! ## Traffic -/

theorem test_resend : runs (.resend 0) (give base 0 [1, 2]) (fun t => answers t 0 .resend) = true := by decide +kernel

theorem test_read_immediate : thenIdles (.read 1) (give base 1 (readFrame 100 8)) (fun t =>
    t.store == some (.port 1) && (t.port 1).inHand == some (.read { offset := 100, count := 8 }) && (t.port 1).sent.isEmpty) =
      true := by decide +kernel

theorem test_read_delayed : runs (.read 0) (give base 0 (readFrame 2147500032 16)) (fun t =>
    answers t 0 (.retry .pending) && t.busItems.isEmpty &&
      t.drt.map (fun e => (e.tag, e.dest, e.phase)) == [(0, 147456, .waiting 0)]) = true := by decide +kernel

theorem test_read_delayed_onto_the_bus : thenIdles (.read 0) (give base 0 (readFrame 2147500032 16)) (fun t =>
    (t.port 0).sent == [.response (.retry .pending)] && t.busItems == [.address .fetch 147456 16 1] &&
      t.drt.map Entry.phase == [.fetching none]) = true := by decide +kernel

theorem test_write_delivered_onto_the_bus : thenIdles (.write 0) (give base 0 (writeFrame 2147500032 [7, 8])) (fun t =>
    (t.port 0).sent == [.response (.done (some 1))] && t.pwq.map PostedWrite.inFlight == [true] &&
      (t.window 1).refCount == 1 && t.busItems == [.address .drain 147456 2 1]) = true := by decide +kernel

/-- A READ that waits is moved behind an overlapping write. -/
theorem test_write_overtakes : runs (.write 0) (give busy 0 (writeFrame 4100 [7])) (fun t =>
    t.pwq.length == 3 && (t.drt.map (fun e => (e.fresh, e.phase))).take 2 == [(2, .waiting 3), (0, .fetching none)]) =
      true := by decide +kernel

theorem test_swap : thenIdles (.swap 0) (give base 0 (swapFrame 8192 (value [1]) (value [2]))) (fun t =>
    (t.port 0).sent == [.response (.retry .pending)] && t.drt == [swapEntry 0 (.fetching none)] && t.store == some .fetch) = true := by
  decide +kernel

theorem test_swap_on_the_bus :
    runs (.swap 0) (give base 0 (swapFrame 2147483648 (value [1]) (value [2]))) (fun t =>
      answers t 0 (.refused .notSupported) && t.drt.isEmpty) = true := by decide +kernel

/-- A READ entry of port 1 at the FREE store: its grant is due. -/
def waits : State :=
  { base with
    drt := [{ readEntry 0 (.waiting 0) with owner := 1 }]
    windows := base.windows.set 0 { base.windows[0] with refCount := 1 } }

/-- R24, R53: a PURGE finds the new entry WAITING and frees it with DISCARD (PURGED), or it has been granted. -/
theorem test_purge_or_grant_first :
    let s := give8 waits 0 .wcommit [0, 3]
    let purged : State → Bool := fun t => t.drt.isEmpty && t.store.isNone && (t.window 0).state == .disabled &&
      (t.port 1).queue == [.windowChanged 0 .draining, .discard 0 4096 16 .purged none, .windowChanged 0 .disabled]
    let orphaned : State → Bool := fun t => t.drt.map Entry.phase == [.orphaned] && t.store == some .fetch &&
      (t.port 1).queue == [.windowChanged 0 .draining]
    runs (.purge 0) s (if Config.grantFirst 0 then orphaned else purged) = true := by
  have h : (give8 waits 0 .wcommit [0, 3]).sendAll.choices = 0 := rfl
  simp only [runs, exec, execPurge, State.take, State.grantsBefore, State.grantBefore, h]
  cases Config.grantFirst 0 <;> decide +kernel

/-- R143: a READ allocated while its response is in hand is freed by the teardown of a link down; where the response has
left, the grant may have come before (R53). -/
theorem test_linkDown_frees_what_is_in_hand : runs (.read 0) (give base 0 (readFrame 2147500032 16)) (fun t =>
    [true, false].all (fun left => [true, false].all (fun first =>
      let s := if left then t.choose.send 0 else t.choose
      let u := if (s.port 0).decided.isSome then s.grantsBefore (s.lostAtLinkDown 0) (fun _ => false)
        else s.grantsBefore (s.lostAtLinkDown 0) (fun _ => first)
      (((u.modifyPort 0 (fun port => port.unlinked false)).teardown 0 .link).drt.map Entry.phase ==
        if left && first then [.orphaned] else [])))) = true := by decide +kernel

/-- R105: a link down withdraws an immediate read that has not been granted, and one that has been leaves a dropped access. -/
theorem test_linkDown_before_or_after_the_grant :
    let s := base.modifyPort 1 (fun port => { port with inHand := some (.read { offset := 0, count := 16 }) })
    ∀ first : Bool, let u := s.grantsBefore (s.lostAtLinkDown 1) (fun _ => first)
      (u.readGranted 1 == first && u.store == if first then some (.port 1) else none) = true := by decide +kernel

/-! ## Joining, the claim and the windows -/

theorem test_join : runs (.join 2) (give8 base 2 .pjoin [1]) (fun t =>
    t.online 2 && answers t 2 (.done none) && (t.port 0).queue == [.portJoined 2] && (t.port 2).queue.isEmpty) = true := by
  decide +kernel

theorem test_leave : runs (.leave 0) (give8 base 0 .pjoin [2]) (fun t =>
    (t.port 0).state == .attached && t.claim.held.isNone && answers t 0 (.done none) &&
      (t.port 1).queue == [.portLeft 0 .leave, .claimFreed 0]) = true := by decide +kernel

theorem test_acquire_claimed :
    runs (.acquire 1) (give8 base 1 .claim [1]) (fun t => answers t 1 (.refused .claimed)) = true := by decide +kernel

theorem test_acquire : runs (.acquire 1) (give8 { base with claim := Claim.reset } 1 .claim [1]) (fun t =>
    t.claim.held == some { holder := 1, remaining := 250000, due := false }) = true := by decide +kernel

theorem test_renew : runs (.renew 0) (give8 (leaseAt true) 0 .claim [2]) (fun t =>
    t.claim.held == some { holder := 0, remaining := 250000, due := false }) = true := by decide +kernel

theorem test_release : runs (.release 0) (give8 base 0 .claim [3]) (fun t =>
    t.claim.held.isNone && (t.port 0).queue.isEmpty && (t.port 1).queue == [.claimFreed 0]) = true := by decide +kernel

/-- A staging record for a window of 4 KiB onto the store. -/
def stagingAt (bridgeBase : Nat) : Staging :=
  { base := some bridgeBase, size := some 4096, dest := some (.ls, 8192), rights := some (Vector.replicate 4 .atomic) }

theorem test_enable : runs (.enable 0) (give8 (staged base 0 (stagingAt 65536)) 0 .wcommit [15, 1]) (fun t =>
    (t.window 15).state == .enabled && (t.window 15).bridgeBase == 65536 &&
      (t.port 1).queue == [.windowChanged 15 .enabled] && t.lookup 69631 == some 15) = true := by decide +kernel

theorem test_enable_overlap : runs (.enable 0) (give8 (staged base 0 (stagingAt 61440)) 0 .wcommit [15, 1]) (fun t =>
    answers t 0 (.refused .overlap)) = true := by decide +kernel

theorem test_disable : runs (.disable 0) (give8 base 0 .wcommit [0, 2]) (fun t => (t.window 0).state == .disabled) = true ∧
    runs (.disable 0) (give8 busy 0 .wcommit [0, 2]) (fun t => (t.window 0).state == .draining) = true := by decide +kernel

theorem test_purge : runs (.purge 0) (give8 busy 0 .wcommit [2, 3]) (fun t =>
    (t.window 2).state == .disabled && t.drt.length == 2 &&
      (t.port 1).queue == [.windowChanged 2 .draining, .discard 2 1048576 8 .purged none, .windowChanged 2 .disabled]) =
      true := by decide +kernel

theorem test_rights : runs (.rights 0) (give8 (staged base 0 (stagingAt 0)) 0 .wcommit [2, 4]) (fun t =>
    (t.window 2).rights == Vector.replicate 4 .atomic && (t.window 2).state == .draining &&
      (t.port 1).queue == [.windowChanged 2 .draining]) = true := by decide +kernel

theorem test_evict : runs (.evict 0) (give8 base 0 .evict [1]) (fun t =>
    (t.port 1).state == .attached && (t.port 0).queue == [.portLeft 1 .evicted]) = true := by decide +kernel

/-! ## The other registers -/

theorem test_notice : runs (.notice 1) (give8 base 1 .notice [0, 0, 0, 0, 0x78, 0x56, 0x34, 0x12]) (fun t =>
    (t.port 0).queue == [.notice 1 0x12345678#32] && answers t 1 (.done none)) = true := by decide +kernel

theorem test_evpop : runs (.evpop 1) (give { busy with ports := busy.ports.set 1 { busy.ports[1] with inHand := none } } 1
    (ctlReadFrame 0x20 16)) (fun t => (t.port 1).queue.isEmpty &&
      answers t 1 (.data [7, 0, 0, 2, 2, 0, 0, 0, 0, 0, 0, 0, 0, 0, 0, 0] none)) = true := by decide +kernel

/-- Kinds 1 and 10 leave the set, and OVERFLOW comes back. -/
theorem test_attnen : runs (.attnen 0) (give8 base 0 .attnen [0, 0, 0x02, 0x04]) (fun t =>
    (t.port 0).attnEnable == 0x07FC#16) = true := by decide +kernel

theorem test_wstgHost : runs (.wstgHost 1) (give8 base 1 .wstgHost [0, 0x10]) (fun t =>
    (t.port 1).staging == { Staging.empty with base := some 4096 }) = true := by decide +kernel

theorem test_wstgSize : runs (.wstgSize 1) (give8 base 1 .wstgSize [0, 0x30]) (fun t =>
    answers t 1 (.refused .badValue) && (t.port 1).staging == Staging.empty) = true := by decide +kernel

theorem test_wstgDest : runs (.wstgDest 1) (give8 base 1 .wstgDest [0, 0x10, 0, 0, 0, 0, 1]) (fun t =>
    (t.port 1).staging == { Staging.empty with dest := some (.xb, 4096) }) = true := by decide +kernel

theorem test_wstgRights : runs (.wstgRights 1) (give8 base 1 .wstgRights [0xE4]) (fun t =>
    (t.port 1).staging == { Staging.empty with rights := some #v[.none, .read, .write, .atomic] }) = true := by
  decide +kernel

theorem test_discardIv : runs (.discardIv 0) (give8 base 0 .discardIv [0xFF, 0x0F]) (fun t => t.discardInterval == 4095) =
    true := by decide +kernel

theorem test_leaseIv : runs (.leaseIv 0) (give8 base 0 .leaseIv [0xE8, 0x03]) (fun t =>
    t.claim == { held := some { holder := 0, remaining := 250000, due := false }, interval := 1000 }) = true := by decide +kernel

theorem test_xbTimeout : runs (.xbTimeout 1) (give8 base 1 .xbTimeout [1]) (fun t =>
    answers t 1 (.refused .notHolder) && t.xbm.timeout == 64) = true := by decide +kernel

theorem test_wviewSel : runs (.wviewSel 1) (give8 base 1 .wviewSel [15]) (fun t => (t.port 1).wviewSel == 15) = true := by
  decide +kernel

theorem test_tviewSel : runs (.tviewSel 1) (give8 base 1 .tviewSel [14]) (fun t =>
    answers t 1 (.refused .badValue) && (t.port 1).tviewSel == 0) = true := by decide +kernel

/-- DEVID: vendor 0A1Dh, part number 4120, revision 1. -/
theorem test_ctlWrite_reads_devid : runs (.ctlWrite 2) (give base 2 (ctlReadFrame 0 8)) (fun t =>
    answers t 2 (.data [0x1D, 0x0A, 0x18, 0x10, 1, 0, 0, 0] none)) = true := by decide +kernel

theorem test_ctlWrite_reads_qstat :
    runs (.ctlWrite 0) (give busy 0 (ctlReadFrame 0xB0 8)) (fun t =>
      answers t 0 (.data [2, 1, 0x2D, 1, 0x2C, 1, 0, 0] none)) = true := by decide +kernel

/-! ## The store and the bus -/

/-- The word at 8192 is 1, as the SWAP of `busy` expects: it becomes 2. -/
theorem test_lsAccessCompletion_swap : runs .lsAccessCompletion busy (fun t =>
    t.mem == [(8192, 2#8)] && t.store == some (.port 1) &&
      (t.drt.map Entry.phase)[1]? == some (.ready (.ok (value [1]) (some .exchanged)) 32768)) = true := by decide +kernel

theorem test_lsAccessCompletion_read : runs .lsAccessCompletion { reading with mem := [(15, 9#8)] } (fun t =>
    answers t 1 (.data (List.replicate 15 0 ++ [9]) none) && t.store.isNone && (t.port 1).buffer.length == 1) = true := by
  decide +kernel

theorem test_addressTaken_sends_the_first_beat :
    runs (.addressTaken 5) { busy with xbm := { busy.xbm with bus := .active (writing .address 64) } } (fun t =>
      t.busItems == [.beat 5 147456 [(0, 1), (1, 2), (2, 3), (3, 4)]]) = true := by decide +kernel

theorem test_writeBeatTaken_ends_the_data : runs (.writeBeatTaken 5) busy (fun t =>
    t.xbm.bus == .active { writing .ending 64 with beatsDone := 1 } && t.busItems.isEmpty) = true := by decide +kernel

/-- A read transaction of 10 bytes whose first byte is at position 5. -/
def fetching : State :=
  { base with
    drt := [{ readEntry 0 (.fetching none) with resource := .xb, window := 1, dest := 147461, count := 10 }]
    xbm :=
      { base.xbm with
        bus := .active { stream := .fetch, address := 147461, count := 10, number := 3, phase := .data, beatsDone := 0
                         readData := [], remaining := 64 } } }

theorem test_readBeat : runs (.readBeat 3 [1, 2, 3, 4, 5, 6, 7, 8]) fetching (fun t =>
    t.xbm.bus == .active { stream := .fetch, address := 147461, count := 10, number := 3, phase := .data, beatsDone := 1
                           readData := [6, 7, 8], remaining := 64 }) = true := by decide +kernel

theorem test_readBeat_of_another_number : runs (.readBeat 4 [1, 2, 3, 4, 5, 6, 7, 8]) fetching (fun t =>
    t == fetching) = true := by decide +kernel

/-- An OK before every beat has been moved ends the transaction with ERROR. -/
theorem test_ending_too_early : runs (.ending 5 .ok) busy (fun t =>
    t.xbm.bus == .idle && t.pwq.map PostedWrite.sequence == [301] &&
      (t.port 0).queue == [.writeFault 300 2147500032 4 1 .error]) = true := by decide +kernel

theorem test_expansionTimeout :
    runs .expansionTimeout { busy with xbm := { busy.xbm with bus := .active (writing .data 0) } } (fun t =>
      t.busItems == [.abort] && (t.port 0).queue == [.writeFault 300 2147500032 4 1 .timeout] &&
        (t.drt.map Entry.phase)[0]? == some (.waiting 1)) = true := by decide +kernel

/-! ## Witnesses: for each statement with hypotheses, states and operands that meet them, clause by clause -/

/-- The frame at the head of a port's buffer. -/
def head (s : State) (p : PortId) : Frame := ((s.port p).buffer.head?).getD []

/-- Whether a port takes a control write of a row, with a value. -/
def wrote (s : State) (p : PortId) (row : TakeRow) (v : List Byte) : Bool :=
  s.takes p row (head s p) && s.online p && (head s p).payload .ctlWrite == v && v.length == 8

theorem takesWrite_of_wrote {s : State} {p : PortId} {row : TakeRow} {v : List Byte} (h : wrote s p row v = true) :
    s.takesWrite p row v := by
  simp only [wrote, Bool.and_eq_true, decide_eq_true_eq, beq_iff_eq] at h
  exact ⟨_, h.1.1.1, h.1.1.2, h.1.2, h.2⟩

theorem takesHeldWrite_of_wrote {s : State} {p : PortId} {row : TakeRow} {v : List Byte}
    (h : (wrote s p row v && s.holds p) = true) : s.takesHeldWrite p row v :=
  ⟨takesWrite_of_wrote ((Bool.and_eq_true _ _).mp h).1, ((Bool.and_eq_true _ _).mp h).2⟩

theorem witness_StepRunsTheFrontCommand : State.reset.pending = [] := rfl

theorem witness_RequestFramesReadBack :
    ((0 < 2 ^ 36 ∧ 2 ^ 36 - 1 < 2 ^ 36) ∧ 0 < 2 ^ 16 ∧ 2 ^ 16 - 1 < 2 ^ 16) ∧ (value [1]).length = 8 ∧
      ([] : List Byte).length < 2 ^ 16 ∧ (List.replicate 65535 (1 : Byte)).length < 2 ^ 16 :=
  ⟨by decide, by decide, by decide, Nat.lt_of_le_of_lt (Nat.le_of_eq List.length_replicate) (by decide)⟩

theorem witness_WhatIsSentHasItsWidth :
    Reg.readable .devid = true ∧ Reg.readable .xbTimeout = true ∧ 1 < [(1 : Byte), 2].length ∧
      (List.replicate 65535 (1 : Byte)).length < 2 ^ 16 ∧ 256 ≤ 256 ∧ 2 ^ 36 - 1 < 2 ^ 36 ∧ 255 ≤ 255 :=
  ⟨by decide, by decide, by decide, Nat.lt_of_le_of_lt (Nat.le_of_eq List.length_replicate) (by decide), by decide, by decide,
    by decide⟩

theorem witness_ResetCommands :
    (resetting false true).clearing = true ∧ (resetting true true).clearing = true ∧ (resetting true false).clearing = false ∧
      (∀ input clearing, (resetting input clearing).atRest) ∧ busy.atRest ∧
      busy.inReset = false ∧ (resetting true false).inReset = true ∧ (resetting false true).inReset = true ∧
      (resetting true true).resetInput = true ∧ busy.resetInput = false := by decide

theorem witness_TimebaseUnit :
    busy.atRest ∧ (∀ e ∈ busy.drt, ∀ result, e.phase ≠ .ready result 0) ∧ (∀ h ∈ busy.claim.held, h.due = false) ∧
      ∀ t, busy.xbm.bus = .active t → t.remaining ≠ 0 := by
  refine ⟨by decide, ?_, by decide, ?_⟩
  · intro e he result
    simp only [busy, List.mem_cons, List.not_mem_nil, or_false] at he
    rcases he with rfl | rfl | rfl <;> simp [readEntry, swapEntry]
  · rintro t h
    simp only [busy, BusState.active.injEq] at h
    subst h
    simp [writing]

/-- All three expiries due. -/
def allDue : State :=
  { due with
    claim := (leaseAt true).claim
    pwq := busy.pwq
    xbm := { busy.xbm with bus := .active (writing .data 0) } }

theorem witness_TimebaseUnit_due :
    allDue.tagsDistinct ∧
      ∃ u, runCommands (tagIds.map Instr.discardExpiry ++ [.leaseExpiry, .expansionTimeout]) allDue = .next u := by
  have h : (match runCommands (tagIds.map Instr.discardExpiry ++ [.leaseExpiry, .expansionTimeout]) allDue with
    | .next _ => true
    | _ => false) = true := by decide +kernel
  split at h
  · exact ⟨by decide, _, ‹_›⟩
  · exact absurd h (by simp)

/-- The window of the due entry is ENABLED in one state, and DRAINING with its last reference in the other. -/
theorem witness_DiscardExpiry :
    let draining := { due with windows := due.windows.set 0 { due.windows[0] with state := .draining } }
    due.atRest ∧ draining.atRest ∧ due.tagsDistinct ∧ draining.tagsDistinct ∧ (draining.window 0).state = .draining ∧
      (draining.window 0).refCount ≤ 1 ∧
      ∃ e ∈ due.drt, ∃ result, e.phase = .ready result 0 :=
  ⟨by decide, by decide, by decide, by decide, by decide, by decide, _, List.mem_cons_self, _, rfl⟩

theorem witness_DiscardExpiry_none :
    busy.atRest ∧ ∀ e ∈ busy.drt, e.tag = 2 → ∀ result, e.phase ≠ .ready result 0 :=
  ⟨witness_TimebaseUnit.1, fun e he _ => witness_TimebaseUnit.2.1 e he⟩

theorem witness_LeaseExpiry :
    (leaseAt true).atRest ∧ base.atRest ∧ (leaseAt false).atRest ∧
    (leaseAt true).claim.held = some { holder := 0, remaining := 1, due := true } ∧
      (∀ h ∈ base.claim.held, h.due = false) ∧ ∀ h ∈ (leaseAt false).claim.held, h.due = false := by decide

theorem witness_LinkUp : base.atRest ∧ base.linkOffered 3 = true ∧ base.linkOffered 0 = false := by decide

theorem witness_FrameArrival :
    base.atRest ∧ (base.port 3).state = .offline ∧ ((base.port 2).state ≠ .offline ∧ (base.port 2).buffer.length < 4) ∧
      let s := base.modifyPort 0 (fun port => { port with buffer := [[1], [2], [3]] })
      let t := base.modifyPort 0 (fun port => { port with buffer := [[1], [2], [3], [4]] })
      s.atRest ∧ t.atRest ∧ ((s.port 0).state ≠ .offline ∧ (s.port 0).buffer.length < 4) ∧ (t.port 0).state ≠ .offline ∧
        4 ≤ (t.port 0).buffer.length := by decide

/-- At a full buffer, with nothing decided and with the answer to its head decided. -/
theorem witness_FrameArrival_full :
    let s := base.modifyPort 0 (fun port => { port with buffer := [[1], [2], [3], [4]] })
    let t := s.answer 0 .resend
    s.atRest ∧ (s.port 0).state ≠ .offline ∧ 4 ≤ (s.port 0).buffer.length ∧
      (t.port 0).state ≠ .offline ∧ 4 ≤ (t.port 0).buffer.length ∧ (t.port 0).inHand = some (.decided .resend) :=
  ⟨by decide, by decide, by decide, by decide, by decide, rfl⟩

theorem witness_LinkDown :
    busy.atRest ∧ waits.allSent ∧ waits.storeGrantee.isSome = true ∧ waits.online 1 = true ∧
      (∀ q, q ≠ 0 → (answered.port q).decided = none) ∧ (busy.port 3).state = .offline ∧ (busy.port 2).state ≠ .offline ∧ busy.online 2 = false ∧
      reading.atRest ∧ (reading.port 1).state ≠ .offline ∧ reading.online 1 = true ∧
      reading.store = some (.port 1) ∧ (reading.port 1).inHand.isSome = true :=
  ⟨by decide +kernel, by decide, by decide +kernel, by decide, by decide, by decide, by decide, by decide, by decide, by decide,
    by decide, rfl, rfl⟩

/-- A READ answered and a WRITE answered, each with its response not yet sent. -/
theorem witness_LinkDown_decided :
    (answered.port 0).state ≠ .offline ∧ (answered.port 0).inHand = some (.decided (.retry .pending)) ∧
      runs (.write 0) (give base 0 (writeFrame 65535 [1])) (fun t => (t.port 0).state != .offline &&
        (t.port 0).inHand == some (.decided (.done (some 1))) && t.pwq.length == 1) = true :=
  ⟨by decide, rfl, by decide +kernel⟩

theorem witness_Teardown :
    let s := busy.modifyPort 0 (fun port => { port with state := .attached })
    s.tagsDistinct ∧ s.online 0 = false ∧ s.holds 0 = true := by decide

theorem witness_Resend :
    (give base 2 [1, 2]).atRest ∧ (give base 2 [1, 2]).frameToTake 2 = some [1, 2] ∧ Frame.intact [1, 2] = false ∧
      (give base 0 (readFrame 0 1 ++ [0])).atRest ∧ (give base 0 (readFrame 0 1 ++ [0])).frameToTake 0 = some (readFrame 0 1 ++ [0]) ∧
      Frame.intact (readFrame 0 1 ++ [0]) = false := by decide +kernel

theorem witness_RefusedTraffic_malformed :
    (∀ p : PortId, p ≠ 3 → (give base p (readFrame 255 2)).takes p .read (readFrame 255 2)) ∧
      (give base 0 (writeFrame 0 [])).takes 0 .write (writeFrame 0 []) ∧
      (give base 0 (swapFrame 4 (value []) (value []))).takes 0 .swap (swapFrame 4 (value []) (value [])) ∧
      (readFrame 255 2).wellFormed = false ∧ (writeFrame 0 []).wellFormed = false ∧
      (swapFrame 4 (value []) (value [])).wellFormed = false := by decide +kernel

theorem witness_RefusedTraffic_notJoined :
    (give base 2 (readFrame 254 2)).takes 2 .read (readFrame 254 2) ∧
      (give base 2 (writeFrame 0 [1])).takes 2 .write (writeFrame 0 [1]) ∧
      (give base 2 (swapFrame 8 (value []) (value []))).takes 2 .swap (swapFrame 8 (value []) (value [])) ∧
      (readFrame 254 2).wellFormed = true ∧ (writeFrame 0 [1]).wellFormed = true ∧
      (swapFrame 8 (value []) (value [])).wellFormed = true ∧ base.online 2 = false := by decide +kernel

/-- A port's charge at its limit, by its own entries or by the shared ones, as `full` and `shared` say. -/
def full : State :=
  { base with drt := [readEntry 0 .orphaned, readEntry 1 .orphaned, readEntry 2 .orphaned, readEntry 3 .orphaned,
      readEntry 4 .orphaned] }

/-- Port 0 has two entries, and ports 1 and 2 five each. -/
def shared : State :=
  { base with drt := [readEntry 0 .orphaned, readEntry 1 .orphaned] ++
      [2, 3, 4, 5, 6].map (fun t => { readEntry t .orphaned with owner := 1 }) ++
      [7, 8, 9, 10, 11].map (fun t => { readEntry t .orphaned with owner := 2 }) }

theorem witness_RefusedTraffic_read :
    (∀ a ∈ [65536, 1048576], let s := give base 0 (readFrame a 1);
      s.takesRequest 0 .read (readFrame a 1) ∧ s.matching 0 .read a 1 = none ∧ s.lookup a = none) ∧
    (let s := give base 1 (readFrame 2147483648 1);
      s.takesRequest 1 .read (readFrame 2147483648 1) ∧ s.matching 1 .read 2147483648 1 = none ∧
        s.lookup 2147483648 = some 1 ∧ (s.window 1).rights[(1 : PortId)].allowsRead = false) ∧
    ∀ s ∈ [full, shared], let s := give s 0 (readFrame 2147483648 1);
      s.takesRequest 0 .read (readFrame 2147483648 1) ∧ s.matching 0 .read 2147483648 1 = none ∧
        s.lookup 2147483648 = some 1 ∧ (s.window 1).rights[(0 : PortId)].allowsRead = true ∧
        ¬((s.window 1).resource = .ls ∧ s.pwq = []) ∧ ¬(s.charge 0 < 2 ∨ s.charge 0 < 5 ∧ s.sharedCharge ≤ 5) := by
  decide +kernel

/-- Eight writes of port 0 are queued, or sixteen of any port. -/
def queued (n : Nat) (own : Nat) : State :=
  { base with
    pwq := (List.range n).map (fun i =>
      posted (BitVec.ofNat 16 (i + 1)) (if i < own then 0 else 1) 1 2147483648 .xb 131072 (i == 0))
    lastSequence := BitVec.ofNat 16 n
    xbm := busy.xbm }

theorem witness_RefusedTraffic_write :
    (let s := give base 0 (writeFrame 65536 [1, 2]);
      s.takesRequest 0 .write (writeFrame 65536 [1, 2]) ∧ s.lookup 65536 = none) ∧
    (let s := give base 1 (writeFrame 65535 [1]);
      s.takesRequest 1 .write (writeFrame 65535 [1]) ∧ s.lookup 65535 = some 0 ∧
        (s.window 0).rights[(1 : PortId)].allowsWrite = false) ∧
    ∀ s ∈ [queued 8 8, queued 16 7], let s := give s 0 (writeFrame 65535 [1]);
      s.takesRequest 0 .write (writeFrame 65535 [1]) ∧ s.lookup 65535 = some 0 ∧
        (s.window 0).rights[(0 : PortId)].allowsWrite = true ∧
        ¬(s.pwq.length < 16 ∧ s.pwq.countP (fun x => x.source == 0) < 8) := by decide +kernel

/-- The SWAP of the witnesses. -/
def swapAt (addr : Nat) : Frame := swapFrame addr (value [1]) (value [2])

theorem witness_RefusedTraffic_swap :
    (let s := give base 0 (swapAt 65536);
      s.takesRequest 0 .swap (swapAt 65536) ∧ s.matching 0 (.swap (value [1]) (value [2])) 65536 8 = none ∧
        s.lookup 65536 = none) ∧
    (let s := give base 1 (swapAt 65528);
      s.takesRequest 1 .swap (swapAt 65528) ∧ s.matching 1 (.swap (value [1]) (value [2])) 65528 8 = none ∧
        s.lookup 65528 = some 0 ∧ (s.window 0).rights[(1 : PortId)] ≠ .atomic) ∧
    (let s := give base 0 (swapAt 2147483648);
      s.takesRequest 0 .swap (swapAt 2147483648) ∧ s.matching 0 (.swap (value [1]) (value [2])) 2147483648 8 = none ∧
        s.lookup 2147483648 = some 1 ∧ (s.window 1).rights[(0 : PortId)] = .atomic ∧ (s.window 1).resource = .xb) ∧
    ∀ s ∈ [full, shared], let s := give s 0 (swapAt 65528);
      s.takesRequest 0 .swap (swapAt 65528) ∧ s.matching 0 (.swap (value [1]) (value [2])) 65528 8 = none ∧
        s.lookup 65528 = some 0 ∧ (s.window 0).rights[(0 : PortId)] = .atomic ∧ (s.window 0).resource = .ls ∧
        ¬(s.charge 0 < 2 ∨ s.charge 0 < 5 ∧ s.sharedCharge ≤ 5) := by decide +kernel

theorem witness_ImmediateRead : ∀ a ∈ [0, 65280], let s := give base 1 (readFrame a 256);
    s.takesRequest 1 .read (readFrame a 256) ∧ s.matching 1 .read a 256 = none ∧ s.lookup a = some 0 ∧
      (s.window 0).rights[(1 : PortId)].allowsRead = true ∧ (s.window 0).resource = .ls ∧ s.pwq = [] := by decide +kernel

/-- Port 0 has four entries and port 1 five: the shared charge is 5. -/
def nearlyShared : State :=
  { base with
    drt := [0, 1, 2, 3].map (fun t => readEntry t .orphaned) ++
      [4, 5, 6, 7, 8].map (fun t => { readEntry t .orphaned with owner := 1 }) }

theorem witness_DelayedRequest_read : ∀ s ∈ [base, nearlyShared], let s := give s 0 (readFrame 2147483648 256);
    s.chargesOk ∧ s.takesRequest 0 .read (readFrame 2147483648 256) ∧ s.matching 0 .read 2147483648 256 = none ∧
      s.lookup 2147483648 = some 1 ∧ (s.window 1).rights[(0 : PortId)].allowsRead = true ∧
      ¬((s.window 1).resource = .ls ∧ s.pwq = []) ∧ (s.charge 0 < 2 ∨ s.charge 0 < 5 ∧ s.sharedCharge ≤ 5) := by
  decide +kernel

theorem witness_DelayedRequest_swap : ∀ s ∈ [base, nearlyShared], let s := give s 0 (swapAt 65528);
    s.chargesOk ∧ s.takesRequest 0 .swap (swapAt 65528) ∧ s.matching 0 (.swap (value [1]) (value [2])) 65528 8 = none ∧
      s.lookup 65528 = some 0 ∧ (s.window 0).rights[(0 : PortId)] = .atomic ∧ (s.window 0).resource = .ls ∧
      (s.charge 0 < 2 ∨ s.charge 0 < 5 ∧ s.sharedCharge ≤ 5) := by decide +kernel

/-- Port 0 asks again for its entry, with rights on the entry's window. -/
def again (e : Entry) (f : Frame) (rights : Rights) : State :=
  give { base with
    drt := [e]
    windows := base.windows.set 0 { base.windows[0] with rights := Vector.replicate 4 rights, refCount := 1 } } 0 f

/-- A READ that is due at the FREE store among them. -/
theorem witness_ReRequest_read : ∀ rights ∈ [Rights.none, .read], ∀ phase ∈ [Phase.waiting 0, .waiting 1, .fetching none,
      .fetching (some 0), .ready (.ok (value []) none) 1, .ready .targetError 0, .ready .targetTimeout 0],
    let s := again (readEntry 0 phase) (readFrame 4096 16) rights
    s.tagsDistinct ∧ s.reRequests 0 (.read 0) (readEntry 0 phase) := by
  have h : ∀ rights ∈ [Rights.none, .read], ∀ phase ∈ [Phase.waiting 0, .waiting 1, .fetching none, .fetching (some 0),
      .ready (.ok (value []) none) 1, .ready .targetError 0, .ready .targetTimeout 0],
      let s := again (readEntry 0 phase) (readFrame 4096 16) rights
      let f := readFrame 4096 16
      s.tagsDistinct ∧ s.settle.takesRequest 0 .read f ∧
        s.matching 0 .read f.addr f.count = some (readEntry 0 phase) := by decide +kernel
  exact fun rights hr phase hp => ⟨(h rights hr phase hp).1, _, .inl ⟨rfl, (h rights hr phase hp).2⟩⟩

theorem witness_ReRequest_swap : ∀ rights ∈ [Rights.write, .atomic], ∀ phase ∈ [Phase.waiting 0, .fetching none,
      .ready (.ok (value []) (some .notExchanged)) 1],
    let s := again (swapEntry 0 phase) (swapAt 8192) rights
    s.tagsDistinct ∧ s.reRequests 0 (.swap 0) (swapEntry 0 phase) := by
  have h : ∀ rights ∈ [Rights.write, .atomic], ∀ phase ∈ [Phase.waiting 0, .fetching none,
      .ready (.ok (value []) (some .notExchanged)) 1],
      let s := again (swapEntry 0 phase) (swapAt 8192) rights
      let f := swapAt 8192
      s.tagsDistinct ∧ s.settle.takesRequest 0 .swap f ∧
        s.matching 0 (.swap f.compareValue f.swapValue) f.addr 8 = some (swapEntry 0 phase) := by decide +kernel
  exact fun rights hr phase hp => ⟨(h rights hr phase hp).1, _, .inr ⟨rfl, (h rights hr phase hp).2⟩⟩

/-- With nothing due, with a queue that is nearly full, and with an entry that the write fences and whose grant is due. -/
theorem witness_WriteAccepted :
    (∀ s ∈ [base, queued 15 7], let s := give s 0 (writeFrame 65535 [1]);
      s.settle.takesRequest 0 .write (writeFrame 65535 [1]) ∧ s.lookup 65535 = some 0 ∧
        (s.window 0).rights[(0 : PortId)].allowsWrite = true ∧ s.pwq.length < 16 ∧
        s.pwq.countP (fun x => x.source == 0) < 8) ∧
    let s := give waits 0 (writeFrame 4096 [1])
    s.settle.takesRequest 0 .write (writeFrame 4096 [1]) ∧ s.lookup 4096 = some 0 ∧
      (s.window 0).rights[(0 : PortId)].allowsWrite = true ∧ s.pwq.length < 16 ∧ s.pwq.countP (fun x => x.source == 0) < 8 ∧
      ∃ e, s.storeGrantee = some (.entry e) ∧ e.actedOn .ls 4096 1 = true := by
  refine ⟨by decide +kernel, ?_⟩
  exact ⟨by decide +kernel, by decide +kernel, by decide +kernel, by decide +kernel, by decide +kernel, _, rfl, by decide⟩

/-- A write of one byte at either end of the entry's range of 16 bytes at 4096 overlaps it, one beyond does not, and an
entry acted on four times is acted on no more. -/
theorem witness_OverlapCheck :
    let hit := fun (e : Entry) (dest count : Nat) =>
      e.resource = .ls ∧ e.dest < dest + count ∧ dest < e.dest + e.count ∧ e.fresh < 4
    hit (readEntry 0 .orphaned) 4096 1 ∧ hit (readEntry 0 .orphaned) 4111 1 ∧ ¬hit (readEntry 0 .orphaned) 4112 1 ∧
      ¬hit (readEntry 0 .orphaned) 4095 1 ∧ ¬hit { readEntry 0 .orphaned with fresh := 4 } 4096 1 ∧
      hit { readEntry 0 .orphaned with fresh := 3 } 4096 1 := by decide

/-! ## Witnesses of the control writes -/

/-- PURGE, with nothing due and with a grant due to an entry of the window. -/
theorem witness_Purge_due : ∀ s ∈ [base, waits, busy], (give8 s 0 .wcommit [0, 3]).tagsDistinct ∧
    (give8 s 0 .wcommit [0, 3]).settle.takesHeldWrite 0 .purge (value [0, 3]) := by
  have h : ∀ s ∈ [base, waits, busy], (give8 s 0 .wcommit [0, 3]).tagsDistinct ∧
      (wrote (give8 s 0 .wcommit [0, 3]).settle 0 .purge (value [0, 3]) && (give8 s 0 .wcommit [0, 3]).settle.holds 0) = true :=
    by decide +kernel
  exact fun s hs => ⟨(h s hs).1, takesHeldWrite_of_wrote (h s hs).2⟩

theorem witness_ControlWriteChecks :
    (let f := ctlWriteFrame 0x78 (value [0, 1]);
      (give base 2 f).takes 2 .enable f ∧ TakeRow.enable.register = some .wcommit ∧ base.online 2 = false ∧
        Reg.wcommit ≠ .pjoin ∧ (give base 1 f).takes 1 .enable f ∧ base.online 1 = true ∧
        Reg.claimRequired .wcommit = true ∧ base.holds 1 = false) ∧
    (let f := ctlWriteFrame 0x10 (value [1] ++ value []);
      (give base 2 f).takes 2 .join f ∧ TakeRow.join.register = some .pjoin ∧ Reg.claimRequired .pjoin = false ∧
        (f.payload .ctlWrite).length ≠ 8) ∧
    let f := ctlWriteFrame 0xD0 (value [1] ++ value [])
    (give base 0 f).takes 0 .evict f ∧ TakeRow.evict.register = some .evict ∧ base.online 0 = true ∧ base.holds 0 = true ∧
      (f.payload .ctlWrite).length ≠ 8 := by decide +kernel

theorem witness_JoinAndLeave :
    let j := ctlWriteFrame 0x10 (value [1])
    let l := ctlWriteFrame 0x10 (value [2])
    (j.payload .ctlWrite).length = 8 ∧ (l.payload .ctlWrite).length = 8 ∧ (give base 0 j).takes 0 .join j ∧
      base.online 0 = true ∧ (give base 2 j).takes 2 .join j ∧ base.online 2 = false ∧ (give base 2 l).settle.takes 2 .leave l ∧
      (give base 0 l).settle.takes 0 .leave l ∧ (give waits 1 l).settle.takes 1 .leave l := by decide +kernel

/-- With nothing due, and with a grant due to an entry of port 1. -/
theorem witness_Evict : ∀ s ∈ [base, waits], ∀ n ∈ [0, 1, 2, 3, 4, 255],
    (give8 s 0 .evict [n]).settle.takesHeldWrite 0 .evict (value [n]) := by
  have h : ∀ s ∈ [base, waits], ∀ n ∈ [0, 1, 2, 3, 4, 255], (wrote (give8 s 0 .evict [n]).settle 0 .evict (value [n]) &&
      (give8 s 0 .evict [n]).settle.holds 0) = true := by decide +kernel
  exact fun s hs n hn => takesHeldWrite_of_wrote (h s hs n hn)

theorem witness_Evict_targets : bytesAt (value [3]) 0 1 = (3 : PortId).val ∧ 3 < bytesAt (value [4]) 0 1 ∧
    base.online 1 = true ∧ base.online 3 = false := by decide

theorem witness_AcquireAndRelease :
    (give8 { base with claim := Claim.reset } 1 .claim [1]).takesWrite 1 .acquire (value [1]) ∧
      (give8 base 0 .claim [1]).takesWrite 0 .acquire (value [1]) ∧
      (give8 base 1 .claim [1]).takesWrite 1 .acquire (value [1]) ∧
      (give8 base 0 .claim [3]).takesWrite 0 .release (value [3]) ∧
      (give8 base 1 .claim [3]).takesWrite 1 .release (value [3]) :=
  ⟨takesWrite_of_wrote (by decide +kernel), takesWrite_of_wrote (by decide +kernel), takesWrite_of_wrote (by decide +kernel),
    takesWrite_of_wrote (by decide +kernel), takesWrite_of_wrote (by decide +kernel)⟩

theorem witness_AcquireAndRelease_claims :
    Claim.reset.held = none ∧ base.holds 0 = true ∧ base.holds 1 = false ∧
      base.claim.held = some { holder := 0, remaining := 250000, due := false } ∧ (0 : PortId) ≠ 1 := by decide

theorem witness_Renew :
    (give8 base 0 .claim [2]).takesWrite 0 .renew (value [2]) ∧ (give8 base 1 .claim [2]).takesWrite 1 .renew (value [2]) ∧
      base.holds 0 = true ∧ base.holds 1 = false :=
  ⟨takesWrite_of_wrote (by decide +kernel), takesWrite_of_wrote (by decide +kernel), by decide, by decide⟩

/-- A commit of window `n` by port 0, in a state. -/
theorem witness_commits : ∀ s ∈ [base, busy, staged base 0 (stagingAt 65536), staged base 0 (stagingAt 61440)],
    ∀ n ∈ [0, 2, 3, 15, 16, 255],
    (give8 s 0 .wcommit [n, 1]).takesHeldWrite 0 .enable (value [n, 1]) ∧
      (give8 s 0 .wcommit [n, 2]).takesHeldWrite 0 .disable (value [n, 2]) ∧
      (give8 s 0 .wcommit [n, 3]).takesHeldWrite 0 .purge (value [n, 3]) ∧
      (give8 s 0 .wcommit [n, 4]).takesHeldWrite 0 .rights (value [n, 4]) := by
  have h : ∀ s ∈ [base, busy, staged base 0 (stagingAt 65536), staged base 0 (stagingAt 61440)],
      ∀ n ∈ [0, 2, 3, 15, 16, 255], ∀ x ∈ [(1, TakeRow.enable), (2, .disable), (3, .purge), (4, .rights)],
      (wrote (give8 s 0 .wcommit [n, x.1]) 0 x.2 (value [n, x.1]) && (give8 s 0 .wcommit [n, x.1]).holds 0) = true := by
    decide +kernel
  exact fun s hs n hn => ⟨takesHeldWrite_of_wrote (h s hs n hn (1, .enable) (by simp)),
    takesHeldWrite_of_wrote (h s hs n hn (2, .disable) (by simp)), takesHeldWrite_of_wrote (h s hs n hn (3, .purge) (by simp)),
    takesHeldWrite_of_wrote (h s hs n hn (4, .rights) (by simp))⟩

/-- The windows that those commits name: 16 is too high, window 0 is ENABLED, 3 and 15 are DISABLED, 2 is DRAINING, and of
the staging records that of `base` is empty, one fits and one overlaps window 0. -/
theorem witness_Enable :
    15 < bytesAt (value [16, 1]) 0 1 ∧ bytesAt (value [15, 1]) 0 1 = (15 : WindowId).val ∧
      (base.window 0).state ≠ .disabled ∧ (base.window 15).state = .disabled ∧ (base.port 0).staging.base = none ∧
      (∀ b ∈ [65536, 61440], ((staged base 0 (stagingAt b)).port 0).staging =
        { base := some b, size := some 4096, dest := some (.ls, 8192), rights := some (Vector.replicate 4 .atomic) } ∧
        b % 4096 = 0) ∧ 8192 % 4096 = 0 ∧ 8192 + 4096 ≤ Resource.ls.size ∧
      (∀ v : WindowId, ¬((base.window v).state ≠ .disabled ∧ 65536 < (base.window v).bridgeBase + (base.window v).size ∧
        (base.window v).bridgeBase < 65536 + 4096)) ∧
      (base.window 0).bridgeBase + (base.window 0).size = 65536 := by decide +kernel

theorem witness_Enable_unfit :
    ((staged base 0 { stagingAt 4096 with size := some 8192 }).port 0).staging =
      { base := some 4096, size := some 8192, dest := some (.ls, 8192), rights := some (Vector.replicate 4 .atomic) } ∧
    ¬(4096 % 8192 = 0 ∧ 8192 % 8192 = 0 ∧ 8192 + 8192 ≤ Resource.ls.size) ∧
    (give8 (staged base 0 { stagingAt 4096 with size := some 8192 }) 0 .wcommit [15, 1]).takesHeldWrite 0 .enable
      (value [15, 1]) :=
  ⟨by decide, by decide, takesHeldWrite_of_wrote (by decide +kernel)⟩

theorem witness_Disable :
    bytesAt (value [0, 2]) 0 1 = (0 : WindowId).val ∧ (base.window 0).state = .enabled ∧ (base.window 0).refCount = 0 ∧
      (busy.window 0).state = .enabled ∧ (busy.window 0).refCount ≠ 0 ∧ (base.window 2).state ≠ .enabled := by decide

theorem witness_Purge :
    busy.tagsDistinct ∧ base.tagsDistinct ∧ bytesAt (value [15, 3]) 0 1 = (15 : WindowId).val ∧
      (busy.window 15).state = .disabled ∧ (base.window 0).state = .enabled ∧ (base.window 0).refCount = 0 ∧
      (busy.window 0).state = .enabled ∧ (busy.window 0).refCount ≠ 0 ∧ (busy.window 2).state = .draining := by decide

theorem witness_RightsCommit :
    bytesAt (value [2, 4]) 0 1 = (2 : WindowId).val ∧ 15 < bytesAt (value [16, 4]) 0 1 ∧
      (base.window 15).state = .disabled ∧ (base.window 2).state ≠ .disabled ∧ (base.port 0).staging.rights = none ∧
      ((staged base 0 (stagingAt 65536)).port 0).staging.rights = some (Vector.replicate 4 .atomic) := by decide

/-- Writes of port 1, which does not hold the claim, to its own staging record and selectors. -/
theorem witness_StagingAndSelectors : ∀ x ∈ [(Reg.wstgHost, TakeRow.wstgHost, leBytes 8 (2 ^ 36 - 4096)),
      (.wstgHost, .wstgHost, leBytes 8 (2 ^ 36)), (.wstgHost, .wstgHost, leBytes 8 1), (.wstgSize, .wstgSize, leBytes 8 4096),
      (.wstgSize, .wstgSize, leBytes 8 (2 ^ 32)), (.wstgSize, .wstgSize, leBytes 8 (2 ^ 33)),
      (.wstgSize, .wstgSize, leBytes 8 2048), (.wstgDest, .wstgDest, leBytes 6 (2 ^ 19 - 4096) ++ [0, 0]),
      (.wstgDest, .wstgDest, leBytes 6 (2 ^ 19) ++ [0, 0]), (.wstgDest, .wstgDest, leBytes 6 (2 ^ 32 - 4096) ++ [1, 0]),
      (.wstgDest, .wstgDest, leBytes 6 0 ++ [2, 0]), (.wstgRights, .wstgRights, value [0xE4]),
      (.wviewSel, .wviewSel, value [15]), (.wviewSel, .wviewSel, value [16]), (.tviewSel, .tviewSel, value [13]),
      (.tviewSel, .tviewSel, value [14])],
    (give base 1 (ctlWriteFrame x.1.offset x.2.2)).takesWrite 1 x.2.1 x.2.2 := by
  have h : ∀ x ∈ [(Reg.wstgHost, TakeRow.wstgHost, leBytes 8 (2 ^ 36 - 4096)),
      (.wstgHost, .wstgHost, leBytes 8 (2 ^ 36)), (.wstgHost, .wstgHost, leBytes 8 1), (.wstgSize, .wstgSize, leBytes 8 4096),
      (.wstgSize, .wstgSize, leBytes 8 (2 ^ 32)), (.wstgSize, .wstgSize, leBytes 8 (2 ^ 33)),
      (.wstgSize, .wstgSize, leBytes 8 2048), (.wstgDest, .wstgDest, leBytes 6 (2 ^ 19 - 4096) ++ [0, 0]),
      (.wstgDest, .wstgDest, leBytes 6 (2 ^ 19) ++ [0, 0]), (.wstgDest, .wstgDest, leBytes 6 (2 ^ 32 - 4096) ++ [1, 0]),
      (.wstgDest, .wstgDest, leBytes 6 0 ++ [2, 0]), (.wstgRights, .wstgRights, value [0xE4]),
      (.wviewSel, .wviewSel, value [15]), (.wviewSel, .wviewSel, value [16]), (.tviewSel, .tviewSel, value [13]),
      (.tviewSel, .tviewSel, value [14])],
      wrote (give base 1 (ctlWriteFrame x.1.offset x.2.2)) 1 x.2.1 x.2.2 = true := by decide +kernel
  exact fun x hx => takesWrite_of_wrote (h x hx)

theorem witness_StagingAndSelectors_values :
    bytesAt (leBytes 8 (2 ^ 32)) 0 7 = 2 ^ (12 + 20) ∧ bytesAt (leBytes 8 4096) 0 7 = 2 ^ (12 + 0) ∧
      (∀ k, k ≤ 20 → bytesAt (leBytes 8 2048) 0 7 ≠ 2 ^ (12 + k)) ∧ bytesAt (value [15]) 0 1 = (15 : WindowId).val ∧
      15 < bytesAt (value [16]) 0 1 ∧ bytesAt (value [13]) 0 1 = (13 : Tag).val ∧ 13 < bytesAt (value [14]) 0 1 := by
  decide

theorem witness_Settings : ∀ x ∈ [(Reg.discardIv, TakeRow.discardIv), (.leaseIv, .leaseIv), (.xbTimeout, .xbTimeout)],
    ∀ n ∈ [0, 1, 1000, 1001, 1023, 1024, 4095, 4096],
    (give base 0 (ctlWriteFrame x.1.offset (leBytes 8 n))).takesHeldWrite 0 x.2 (leBytes 8 n) := by
  have h : ∀ x ∈ [(Reg.discardIv, TakeRow.discardIv), (.leaseIv, .leaseIv), (.xbTimeout, .xbTimeout)],
      ∀ n ∈ [0, 1, 1000, 1001, 1023, 1024, 4095, 4096],
      (wrote (give base 0 (ctlWriteFrame x.1.offset (leBytes 8 n))) 0 x.2 (leBytes 8 n) &&
        (give base 0 (ctlWriteFrame x.1.offset (leBytes 8 n))).holds 0) = true := by decide +kernel
  exact fun x hx n hn => takesHeldWrite_of_wrote (h x hx n hn)

/-- NOTICE and ATTNEN from a port that is ATTACHED. -/
theorem witness_Notice_Attnen_notJoined :
    (give8 base 2 .notice [0]).takes 2 .notice (ctlWriteFrame 0x50 (value [0])) ∧
      (give8 base 2 .attnen [0]).takes 2 .attnen (ctlWriteFrame 0x48 (value [0])) ∧ base.online 2 = false := by
  decide +kernel

theorem witness_Notice : (∀ n ∈ [0, 1, 2, 3, 4], (give8 base 1 .notice [n]).takesWrite 1 .notice (value [n])) ∧
    bytesAt (value [3]) 0 1 = (3 : PortId).val ∧ 3 < bytesAt (value [4]) 0 1 := by
  have h : ∀ n ∈ [0, 1, 2, 3, 4], wrote (give8 base 1 .notice [n]) 1 .notice (value [n]) = true := by decide +kernel
  exact ⟨fun n hn => takesWrite_of_wrote (h n hn), by decide, by decide⟩

theorem witness_EvPop :
    (give base 2 (ctlReadFrame 0x20 16)).takes 2 .evpop (ctlReadFrame 0x20 16) ∧ (base.port 2).queue = [] ∧
      (let s := base.modifyPort 1 (fun port => { port with buffer := [ctlReadFrame 0x20 16], queue := [.claimExpired] });
        s.takes 1 .evpop (ctlReadFrame 0x20 16) ∧ (s.port 1).queue = [.claimExpired]) ∧
      (ctlReadFrame 0x20 16).count = 16 ∧ (give base 0 (ctlReadFrame 0x20 8)).takes 0 .evpop (ctlReadFrame 0x20 8) ∧
      (ctlReadFrame 0x20 8).count ≠ 16 := by decide +kernel

theorem witness_Attnen :
    (∀ v ∈ [[0xFE, 0x07, 0x02, 0], [0, 0, 0, 0], [0, 0, 0, 0x04], [1, 0, 0, 0], [0, 0, 0, 0x08]],
      (give8 base 1 .attnen v).takesWrite 1 .attnen (value v)) ∧
    (∀ i, (BitVec.ofNat 16 (bytesAt (value [0xFE, 0x07, 0x02, 0]) 0 2)).getLsbD i = true → 1 ≤ i ∧ i ≤ 10) ∧
    ¬(∀ i, (BitVec.ofNat 16 (bytesAt (value [1, 0, 0, 0]) 0 2)).getLsbD i = true → 1 ≤ i ∧ i ≤ 10) := by
  have h : ∀ v ∈ [[0xFE, 0x07, 0x02, 0], [0, 0, 0, 0], [0, 0, 0, 0x04], [1, 0, 0, 0], [0, 0, 0, 0x08]],
      wrote (give8 base 1 .attnen v) 1 .attnen (value v) = true := by decide +kernel
  refine ⟨fun v hv => takesWrite_of_wrote (h v hv), ?_, fun h => absurd (h 0 (by decide)) (by decide)⟩
  intro i hi
  have h16 : ∀ i : Fin 16,
      (BitVec.ofNat 16 (bytesAt (value [0xFE, 0x07, 0x02, 0]) 0 2)).getLsbD i = true → 1 ≤ i.val ∧ i.val ≤ 10 := by decide
  by_cases hlt : i < 16
  · exact h16 ⟨i, hlt⟩ hi
  · rw [BitVec.getLsbD_of_ge _ _ (by omega)] at hi
    exact absurd hi (by simp)

/-- Every control request without a row of its own: malformed; reads at an offset of no register, at the second half of
a register, of a readable register and of one that is not; writes to no register, to a read-only one, with a code that is
not named, of a port that is not ONLINE, without the claim. -/
theorem witness_OtherControlRequests :
    ∀ f ∈ [ctlReadFrame 4 8, ctlReadFrame 0x28 8, ctlReadFrame 0xD8 8, ctlReadFrame 0xC8 8, ctlReadFrame 0x88 8,
      ctlReadFrame 0xD0 8, ctlWriteFrame 0xD8 (value []), ctlWriteFrame 0 (value []), ctlWriteFrame 0x10 (value [3]),
      ctlWriteFrame 0x18 (value [0]), ctlWriteFrame 0x78 (value [0, 5]), Frame.seal (leBytes 12 6)],
    ∀ p : PortId, p ≠ 3 → (give base p f).takes p .ctlWrite f := by decide +kernel

theorem witness_OtherControlRequests_kinds :
    (ctlReadFrame 4 8).wellFormed = false ∧ (Frame.seal (leBytes 12 6)).wellFormed = false ∧
      (ctlReadFrame 0xC8 8).wellFormed = true ∧ (ctlReadFrame 0xC8 8).kind = some .ctlRead ∧
      Reg.ofOffset (ctlReadFrame 0x28 8).offset = none ∧ Reg.ofOffset (ctlReadFrame 0xC8 8).offset = some .xbTimeout ∧
      (ctlWriteFrame 0x78 (value [0, 5])).wellFormed = true ∧ (ctlWriteFrame 0x78 (value [0, 5])).kind ≠ some .ctlRead ∧
      Reg.ofOffset (ctlWriteFrame 0xD8 (value [])).offset = none ∧
      Reg.ofOffset (ctlWriteFrame 0x78 (value [0, 5])).offset = some .wcommit := by decide +kernel

/-- What TVIEW shows is of an entry in one state and of a FREE tag in the other, and the fields are within their widths. -/
theorem witness_OtherControlRequests_registers :
    busy.drt.find? (fun x => x.tag == (busy.port 0).tviewSel) = some { readEntry 0 (.waiting 2) with fresh := 1 } ∧
      (∀ e ∈ base.drt, e.tag ≠ (base.port 0).tviewSel) ∧ (base.window 0).size = 2 ^ 16 ∧ (base.window 0).refCount ≤ 30 ∧
      (base.window 1).bridgeBase < 2 ^ 36 ∧ (base.window 1).destBase < 2 ^ 32 ∧ busy.pwq.length ≤ 16 ∧
      (busy.port 1).queue.length ≤ 16 := by decide

/-! ## Witnesses of the store and the bus -/

theorem witness_StoreCompletions :
    base.atRest ∧ base.store = none ∧ reading.atRest ∧
      (reading.store = some (.port 1) ∧ (reading.port 1).dropped = false ∧
        (reading.port 1).inHand = some (.read { offset := 0, count := 16 }) ∧ 0 + 16 ≤ 524288) ∧
      (reading.modifyPort 1 (fun port => { port with dropped := true })).atRest ∧
      ((reading.modifyPort 1 (fun port => { port with dropped := true })).port 1).dropped = true ∧
      (let h := posted 301 0 0 65532 .ls 524284 true;
        let s := { busy with store := some .drain, pwq := [h] }
        s.atRest ∧ s.storeCanonical ∧ s.store = some .drain ∧ s.pwq = [h] ∧ h.dest + h.data.length ≤ 524288) ∧
      let e := { readEntry 0 (.fetching none) with dest := 524272 }
      let s := { busy with drt := [e] }
      s.atRest ∧ s.store = some .fetch ∧ s.drt.find? (Entry.occupies .ls) = some e ∧ e.kind = .read ∧ e.dest + e.count ≤ 524288 := by
  decide

/-- The words of the SWAP of `busy` are equal in one state of the store and differ in the other. -/
theorem witness_CompareAndSwap : ∀ m ∈ [busy.mem, []], let s := { busy with mem := m };
    s.atRest ∧ s.storeCanonical ∧ s.store = some .fetch ∧ s.drt.find? (Entry.occupies .ls) = some (swapEntry 1 (.fetching none)) ∧
      (swapEntry 1 (.fetching none)).kind = .swap (value [1]) (value [2]) ∧ (value [2]).length = 8 ∧
      (swapEntry 1 (.fetching none)).dest + 8 ≤ 524288 := by decide +kernel

theorem witness_CompletionsReachTheirTables :
    busy.pwq = posted 300 0 1 2147500032 .xb 147456 true :: [posted 301 0 0 4096 .ls 4096 false] ∧
      ∀ phase ∈ [Phase.fetching none, .fetching (some 2), .orphaned],
        let s := { busy with drt := [readEntry 3 (.waiting 0), swapEntry 1 phase] }
        s.tagsDistinct ∧ swapEntry 1 phase ∈ s.drt ∧ s.drt.find? (Entry.occupies .ls) = some (swapEntry 1 phase) := by
  decide +kernel

/-- A transaction on the bus, in each phase and direction. -/
def moving (phase : BusPhase) (stream : Stream) (remaining : Nat) : State :=
  { busy with xbm := { busy.xbm with bus := .active { writing phase remaining with stream := stream } } }

theorem witness_Beats : ∀ phase ∈ [BusPhase.address, .data, .ending], ∀ stream ∈ [Stream.drain, .fetch],
    (moving phase stream 64).atRest ∧ (moving phase stream 64).xbm.bus = .active { writing phase 64 with stream := stream } ∧ (value []).length = 8 := by
  decide

theorem witness_TransactionEnds :
    (moving .ending .drain 0).atRest ∧ (moving .data .fetch 0).atRest ∧
      (moving .ending .drain 0).xbm.bus = .active { writing .ending 0 with stream := .drain } ∧
      (moving .data .fetch 0).xbm.bus = .active { writing .data 0 with stream := .fetch } ∧
      (writing .data 0).remaining = 0 ∧ busy.atRest ∧ ∀ t, busy.xbm.bus = .active t → t.remaining ≠ 0 :=
  ⟨by decide, by decide, rfl, rfl, rfl, witness_TimebaseUnit.1, witness_TimebaseUnit.2.2.2⟩

theorem witness_LateAnswers :
    base.atRest ∧ busy.atRest ∧ (moving .address .fetch 1).atRest ∧ (∀ t, base.xbm.bus = .active t → t.number ≠ 0) ∧ (∀ t, busy.xbm.bus = .active t → t.number ≠ 4) ∧
      busy.xbm.bus = .active (writing .data 64) ∧ (writing .data 64).phase ≠ .address ∧
      (moving .address .fetch 1).xbm.bus = .active { writing .address 1 with stream := .fetch } := by
  refine ⟨by decide, by decide, by decide, ?_, ?_, rfl, by decide, rfl⟩
  · intro t h
    simp [base, State.reset, Xbm.reset] at h
  · rintro t h
    simp only [busy, BusState.active.injEq] at h
    subst h
    decide

/-- A queue whose head is not in flight, behind nothing or before an eligible entry. -/
def idle (drt : List Entry) (pwq : List PostedWrite) (last : Position) (stream : Stream) : State :=
  { base with drt := drt, pwq := pwq, lastPosition := last, xbm := { base.xbm with lastStream := stream } }

/-- An entry whose fetch goes to the expansion bus, and may begin. -/
def busEntry : Entry := { readEntry 0 (.waiting 0) with resource := .xb, window := 1, dest := 131072 }

theorem witness_Grants_store :
    (let s := idle [] [posted 1 0 0 0 .ls 0 false] .fetch .fetch;
      s.store = none ∧ s.inReset = false ∧ (cycleAfter s.lastPosition).find? s.positionRequests = some .drain) ∧
    (let s := idle [readEntry 0 (.waiting 0)] [posted 1 0 0 0 .ls 0 false] .drain .fetch;
      s.store = none ∧ s.inReset = false ∧ (cycleAfter s.lastPosition).find? s.positionRequests = some .fetch) ∧
    (let s := base.modifyPort 3 (fun port => { port with inHand := some (.read { offset := 0, count := 1 }) });
      s.store = none ∧ s.inReset = false ∧ (cycleAfter s.lastPosition).find? s.positionRequests = some (.port 3)) ∧
    busy.store ≠ none ∧ (resetting true true).inReset = true ∧
    (∀ pos ∈ positionCycle, base.positionRequests pos = false) := by decide +kernel

/-- One grant due, at the store and at the bus, and none. -/
theorem witness_Grants_due :
    waits.tagsDistinct ∧ waits.storeGrantee.isSome = true ∧ waits.busGrantee = none ∧
      (let s := idle [busEntry] [] .fetch .fetch; s.tagsDistinct ∧ s.storeGrantee = none ∧ s.busGrantee = some (.entry busEntry)) ∧
      base.granted ∧ busy.granted := by decide +kernel

theorem witness_Grants_bus :
    busy.xbm.bus ≠ .idle ∧
    (let h := posted 1 0 1 2147483648 .xb 131072 false;
      let s := idle [busEntry] [h] .fetch .fetch
      s.xbm.bus = .idle ∧ s.drainRequests .xb = true ∧ s.fetchRequests .xb = true ∧ s.xbm.lastStream = .fetch ∧ s.pwq = [h]) ∧
    (let s := idle [busEntry] [posted 1 0 1 2147483648 .xb 131072 false] .fetch .drain;
      s.xbm.bus = .idle ∧ s.drainRequests .xb = true ∧ s.fetchRequests .xb = true ∧ s.xbm.lastStream = .drain ∧
        s.drt.find? (fun x => x.resource == .xb && x.phase == .waiting 0) = some busEntry) ∧
    (let s := idle [busEntry] [] .fetch .fetch;
      s.xbm.bus = .idle ∧ s.fetchRequests .xb = true ∧ s.drainRequests .xb = false) ∧
    base.xbm.bus = .idle ∧ base.drainRequests .xb = false ∧ base.fetchRequests .xb = false := by decide +kernel

/-- With every position requesting at every grant, the cycle runs once round from any position. -/
theorem witness_CycleServesEveryPosition :
    let last : Nat → Position := fun k => (positionCycle[k % 6]?).getD .fetch
    (∀ k, k < 6 → (fun (_ : Nat) (_ : Position) => true) k .fetch = true) ∧
      (∀ k, k < 6 → (cycleAfter (last k)).find? (fun _ => true) = some (last (k + 1))) ∧
      ∀ pos ∈ positionCycle, (fun (_ : Position) => true) pos = true := by
  decide

theorem witness_LookupAndMatching :
    busy.windowsDisjoint ∧ busy.keysDistinct ∧ busy.lookup 65535 = some 0 ∧ busy.lookup 65536 = none ∧
      busy.matching 0 .read 4096 16 = some { readEntry 0 (.waiting 2) with fresh := 1 } := by decide +kernel

theorem witness_MemoryReadsWhatWasWritten :
    Memory.wf [(0, 1#8), (524287, 2#8)] = true ∧ 524287 + [(1 : Byte)].length ≤ Config.storeSize ∧
      (524286 < 524287 ∨ 524287 + [(1 : Byte)].length ≤ 524286) := by decide

theorem witness_QueueAppends :
    (∀ x ∈ List.replicate 14 Record.claimExpired, ∀ n, x ≠ .overflow n) ∧
      (List.replicate 14 Record.claimExpired).length < 15 ∧
      (∀ x ∈ List.replicate 15 Record.claimExpired, ∀ n, x ≠ .overflow n) ∧
      (List.replicate 15 Record.claimExpired).length = 15 := by
  refine ⟨?_, by decide, ?_, by decide⟩ <;> · intro x hx n; rw [List.eq_of_mem_replicate hx]; simp

/-! ## Witnesses of the whole machine: one lawful state in the middle of things -/

theorem witness_EveryFrameTakenIsAnsweredOnce :
    (busy.takes 0 .read (readFrame 4096 16) ∧ runs (TakeRow.read.command 0) busy (fun _ => true) = true) ∧
      (give base 1 (readFrame 0 1)).takes 1 .read (readFrame 0 1) ∧
      (give waits 1 (readFrame 0 1)).settle.takes 1 .read (readFrame 0 1) ∧ busy.settle.takes 0 .read (readFrame 4096 16) ∧
      runs (TakeRow.read.command 1) (give base 1 (readFrame 0 1)) (fun _ => true) = true := by decide +kernel

/-- A response decided while a command runs at another port, or while its own link goes down. -/
theorem witness_EveryFrameTakenIsAnsweredOnce_decided :
    (answered.port 0).inHand = some (.decided (.retry .pending)) ∧ (answered.port 0).state ≠ .offline ∧
      runs .timebaseUnit answered (fun _ => true) = true ∧ (∃ t, exec (.linkDown 0 .loss) answered = .next t) ∧
      answered.inReset = false ∧ (answered.port 3).state = .offline ∧ (answered.port 2).buffer.length < 4 :=
  ⟨rfl, by decide, by decide +kernel, ⟨_, rfl⟩, by decide, by decide, by decide⟩

/-- From any state, and for any choice of ports, the state from which their decided responses have left. -/
theorem witness_EveryFrameTakenIsAnsweredOnce_gone (s : State) (leaves : PortId → Bool) :
    let u := s.mapPorts (fun p port => if leaves p then port.send else port)
    u = { s with ports := u.ports } ∧
      ∀ p, (leaves p = true → ∀ r, (s.port p).inHand = some (.decided r) → u.port p =
          { s.port p with
            buffer := (s.port p).buffer.tail, inHand := none, sent := (s.port p).sent ++ [.response r] }) ∧
        ((leaves p = true → ∀ r, (s.port p).inHand ≠ some (.decided r)) → u.port p = s.port p) := by
  refine ⟨rfl, fun p => ?_⟩
  have hu : (s.mapPorts (fun p port => if leaves p then port.send else port)).port p =
      if leaves p then (s.port p).send else s.port p := by simp [State.mapPorts, State.port]
  refine ⟨fun hl r hr => ?_, fun h => ?_⟩
  · rw [hu, if_pos hl]
    simp [Port.send, Port.decided, hr]
  · rw [hu]
    cases hl : leaves p with
    | false => rfl
    | true =>
      rcases hi : (s.port p).inHand with _ | _ | r
      · simp [Port.send, Port.decided, hi]
      · simp [Port.send, Port.decided, hi]
      · exact absurd hi (h hl r)

/-- A setting changes at the hand of the holder. -/
theorem witness_OnlyTheHolderConfigures :
    runs (.discardIv 0) (give base 0 (ctlWriteFrame 0xB8 (leBytes 8 5))) (fun t => t.discardInterval != base.discardInterval) =
      true := by decide +kernel

theorem witness_busy_steps : ∃ t, step busy = .next t := by
  have h : (match step busy with | .next _ => true | _ => false) = true := by decide +kernel
  split at h
  · exact ⟨_, ‹_›⟩
  · exact absurd h (by simp)

theorem witness_StoreAndWindowsStayLegal : busy.storeCanonical ∧ busy.windowFieldsOk ∧ busy.windowsDisjoint := by
  decide +kernel

theorem witness_ReferencesStayCounted : busy.tagsDistinct ∧ busy.refCountsOk := by decide +kernel

theorem witness_TheTableStaysLegal :
    busy.tagsDistinct ∧ busy.keysDistinct ∧ busy.oneFetchPerResource ∧ busy.chargesOk ∧ busy.absentPortsClear := by
  decide +kernel

theorem witness_QueueAndFencesStayLegal : busy.queueOk ∧ busy.fencesOk := by
  refine ⟨by decide +kernel, ?_⟩
  intro e he
  simp only [busy, List.mem_cons, List.not_mem_nil, or_false] at he
  rcases he with rfl | rfl | rfl <;> simp [readEntry, swapEntry, Phase.fenceWithin, Config.freshLimit, posted, busy]

theorem witness_PortsStayLegal_decided : answered.buffersOk ∧ answered.eventQueuesOk ∧ answered.attnEnablesOk ∧
    answered.holderOnline := by decide +kernel

theorem witness_PortsStayLegal : busy.buffersOk ∧ busy.eventQueuesOk ∧ busy.attnEnablesOk ∧ busy.holderOnline := by
  decide +kernel

theorem witness_SettingsAndResetStayLegal : busy.settingsOk ∧ busy.timersBounded ∧ busy.resetQuiet := by
  refine ⟨by decide, ⟨?_, by decide, ?_⟩, by decide +kernel⟩
  · intro e he r n hp
    simp only [busy, List.mem_cons, List.not_mem_nil, or_false] at he
    rcases he with rfl | rfl | rfl <;> simp [readEntry, swapEntry] at hp
    omega
  · rintro t h
    simp only [busy, BusState.active.injEq] at h
    subst h
    decide

theorem witness_ReadsStayOrdered : busy.tagsDistinct ∧ busy.readsOrdered := by
  refine ⟨by decide, ?_⟩
  intro e he hk hf i w hw hr ho
  have hi : i < 2 := by
    have := (List.getElem?_eq_some_iff.mp hw).1
    simpa [busy] using this
  simp only [busy, List.mem_cons, List.not_mem_nil, or_false] at he
  rcases he with rfl | rfl | rfl
  · simpa [Phase.fencedBehind, readEntry] using hi
  · exact absurd hk (by simp [swapEntry])
  · exfalso
    have : i = 0 ∨ i = 1 := by omega
    rcases this with rfl | rfl <;> simp only [busy, List.getElem?_cons_zero, List.getElem?_cons_succ, Option.some.injEq] at hw <;>
      subst hw <;> revert hr ho <;> decide

theorem witness_AccessesStayInside :
    busy.tagsDistinct ∧ busy.windowFieldsOk ∧ busy.agentsOk ∧ busy.rangesOk := by
  refine ⟨by decide, by decide +kernel, ⟨by decide, by decide, ?_, ?_⟩, by decide +kernel⟩
  · rintro t h -
    simp only [busy, BusState.active.injEq] at h
    subst h
    decide
  · rintro t h hs
    simp only [busy, BusState.active.injEq] at h
    subst h
    exact absurd hs (by decide)

/-- A command that takes nothing away from the grant that is due, and completions at a busy store and an active bus. -/
theorem witness_ArbitersStayWorkConserving_due :
    waits.tagsDistinct ∧ waits.allSent ∧ waits.storeGrantee.isSome = true ∧ (∀ g, ¬waits.takesAway .timebaseUnit g) ∧
      busy.inReset = false ∧ runs .lsAccessCompletion busy (fun t => t.store.isNone || t.store == some (.port 1)) = true ∧
      runs (.ending 5 .error) busy (fun t => t.xbm.bus == .idle) = true := by
  refine ⟨by decide, by decide, by decide +kernel, fun g h => ?_, by decide, by decide +kernel, by decide +kernel⟩
  simp [State.takesAway, State.reRequests] at h

theorem witness_ArbitersStayWorkConserving :
    busy.tagsDistinct ∧ busy.buffersOk ∧ busy.resetQuiet ∧ busy.workConserving ∧ base.workConserving := by
  refine ⟨by decide, by decide +kernel, by decide +kernel, ⟨fun _ h => absurd h (by decide), fun h => absurd h (by decide)⟩,
    ⟨fun _ _ pos => ?_, by decide⟩⟩
  cases pos with
  | port p => revert p; decide
  | drain => decide
  | fetch => decide

end Sys2Proof.Tests
end

section
/-! SUPPORT. The bridge address space and the window table: what an accepted window commit or staging write is decided by,
what each of their rules answers case by case, and the statements about ENABLE, DISABLE, RIGHTS, the staging record and the
selectors. -/

namespace Sys2Proof.Machine

/-! ## The control writes that are decided by their register's own rule -/

/-- What a taking may take away from a grant makes no difference where no grant is due. -/
theorem State.take_lost_of_takes {s : State} {p : PortId} {row : TakeRow} {f : Frame} (h : s.takes p row f)
    (decide : State → Frame → State) (lost : State → Frame → Grantee → Bool) :
    s.take p row decide lost = s.take p row decide :=
  (State.take_of_takes h decide lost).trans (State.take_of_takes h decide).symm

/-- A window commit of the holder is decided by the rule of its action on the window it names (R14). -/
theorem State.take_commit {s : State} {p : PortId} {row : TakeRow} {value : List Byte} (h : s.takesHeldWrite p row value)
    (action : State → WindowId → Verdict) (lost : State → Frame → Grantee → Bool := fun _ _ _ => false) :
    s.take p row (fun s f => s.controlWrite p .wcommit (f.payload .ctlWrite)
        (commitRule (f.payload .ctlWrite) (action s))) lost =
      s.conclude p (commitRule value (action s)) := by
  obtain ⟨hw, hh⟩ := h
  have ⟨f, ht, _⟩ := hw
  rw [State.take_lost_of_takes ht]
  exact State.take_controlWrite hw rfl rfl (.inr hh) (fun s value => commitRule value (action s))

theorem exec_enable {s : State} {p : PortId} {value : List Byte} (h : s.takesHeldWrite p .enable value) :
    exec (.enable p) s = .next (s.conclude p (commitRule value (s.enableRule p))) :=
  congrArg Host.Outcome.next (State.take_commit h (fun s => s.enableRule p))

theorem exec_disable {s : State} {p : PortId} {value : List Byte} (h : s.takesHeldWrite p .disable value) :
    exec (.disable p) s = .next (s.conclude p (commitRule value s.disableRule)) :=
  congrArg Host.Outcome.next (State.take_commit h State.disableRule)

theorem exec_purge {s : State} {p : PortId} {value : List Byte} (h : s.takesHeldWrite p .purge value) :
    exec (.purge p) s = .next (s.conclude p (commitRule value s.purgeRule)) :=
  congrArg Host.Outcome.next (State.take_commit h State.purgeRule _)

theorem exec_rights {s : State} {p : PortId} {value : List Byte} (h : s.takesHeldWrite p .rights value) :
    exec (.rights p) s = .next (s.conclude p (commitRule value (s.rightsRule p))) :=
  congrArg Host.Outcome.next (State.take_commit h (fun s => s.rightsRule p))

section

variable {s : State} {p : PortId} {value : List Byte}

theorem exec_wstgHost (h : s.takesWrite p .wstgHost value) :
    exec (.wstgHost p) s =
      .next (s.conclude p (s.stageRule p (stagedBase value) (fun st n => { st with base := some n }))) :=
  congrArg Host.Outcome.next (State.take_controlWrite h rfl rfl (.inl rfl) (fun s value => s.stageRule p (stagedBase value) _))

theorem exec_wstgSize (h : s.takesWrite p .wstgSize value) :
    exec (.wstgSize p) s =
      .next (s.conclude p (s.stageRule p (stagedSize value) (fun st n => { st with size := some n }))) :=
  congrArg Host.Outcome.next (State.take_controlWrite h rfl rfl (.inl rfl) (fun s value => s.stageRule p (stagedSize value) _))

theorem exec_wstgDest (h : s.takesWrite p .wstgDest value) :
    exec (.wstgDest p) s =
      .next (s.conclude p (s.stageRule p (stagedDest value) (fun st d => { st with dest := some d }))) :=
  congrArg Host.Outcome.next (State.take_controlWrite h rfl rfl (.inl rfl) (fun s value => s.stageRule p (stagedDest value) _))

theorem exec_wstgRights (h : s.takesWrite p .wstgRights value) :
    exec (.wstgRights p) s =
      .next (s.conclude p (s.stageRule p (some (stagedRights value)) (fun st l => { st with rights := some l }))) :=
  congrArg Host.Outcome.next
    (State.take_controlWrite h rfl rfl (.inl rfl) (fun s value => s.stageRule p (some (stagedRights value)) _))

theorem exec_wviewSel (h : s.takesWrite p .wviewSel value) :
    exec (.wviewSel p) s = .next (s.conclude p (s.wviewSelRule p value)) :=
  congrArg Host.Outcome.next (State.take_controlWrite h rfl rfl (.inl rfl) (fun s => s.wviewSelRule p))

theorem exec_tviewSel (h : s.takesWrite p .tviewSel value) :
    exec (.tviewSel p) s = .next (s.conclude p (s.tviewSelRule p value)) :=
  congrArg Host.Outcome.next (State.take_controlWrite h rfl rfl (.inl rfl) (fun s => s.tviewSelRule p))

end

/-! ## The window a commit names (R14) -/

theorem commitRule_of_index {value : List Byte} {w : WindowId} (h : bytesAt value 0 1 = w.val)
    (action : WindowId → Verdict) : commitRule value action = action w := by
  simp only [commitRule, windowIndex_eq h]

theorem commitRule_of_above {value : List Byte} (h : 15 < bytesAt value 0 1) (action : WindowId → Verdict) :
    commitRule value action = .refused .badValue := by
  simp only [commitRule, windowIndex_none h]

/-! ## ENABLE (R15, R16) -/

theorem stagedFits_iff {base size dest : Nat} {r : Resource} :
    stagedFits base size r dest = true ↔ base % size = 0 ∧ dest % size = 0 ∧ dest + size ≤ r.size := by
  simp [stagedFits, and_assoc]

/-- A staging record with a field absent describes no window. -/
theorem Staging.toWindow_of_absent {st : Staging}
    (h : st.base = none ∨ st.size = none ∨ st.dest = none ∨ st.rights = none) : st.toWindow = none := by
  unfold Staging.toWindow
  split
  · simp_all
  · rfl

/-- The window that a staging record with every field present describes, where the fields fit together. -/
theorem Staging.toWindow_of_present (base size : Nat) (r : Resource) (dest : Nat) (rights : RightsList) :
    Staging.toWindow { base := some base, size := some size, dest := some (r, dest), rights := some rights } =
      if base % size = 0 ∧ dest % size = 0 ∧ dest + size ≤ r.size then
        some { state := .enabled, bridgeBase := base, size := size, resource := r, destBase := dest
               rights := rights, refCount := 0 }
      else none :=
  if_congr stagedFits_iff rfl rfl

/-- The bridge range of a window proposed meets that of a window that is not DISABLED. -/
theorem State.overlapsTable_iff {s : State} {win : Window} :
    s.overlapsTable win = true ↔ ∃ v : WindowId, (s.window v).state ≠ .disabled ∧
      win.bridgeBase < (s.window v).bridgeBase + (s.window v).size ∧
        (s.window v).bridgeBase < win.bridgeBase + win.size := by
  simp [State.overlapsTable, Window.overlaps, mem_windowIds]

section

variable {s : State} {p : PortId} {w : WindowId}

theorem State.enableRule_of_not_disabled (h : (s.window w).state ≠ .disabled) :
    s.enableRule p w = .refused .wrongState :=
  if_pos (bne_iff_ne.mpr h)

theorem State.enableRule_of_no_window (h : (s.window w).state = .disabled) (ht : (s.port p).staging.toWindow = none) :
    s.enableRule p w = .refused .badValue := by
  simp [State.enableRule, h, ht]

theorem State.enableRule_of_window {win : Window} (h : (s.window w).state = .disabled)
    (ht : (s.port p).staging.toWindow = some win) :
    s.enableRule p w =
      if s.overlapsTable win = true then .refused .overlap
      else .done ((s.modifyWindow w (fun old => { win with refCount := old.refCount })).broadcast
        (.windowChanged w .enabled)) := by
  simp [State.enableRule, h, ht]

end

/-- Settles O28: the checks of R15 in their order, each branch of the rule in turn. -/
theorem enable : Obligations.Enable := by
  intro s p value h
  rw [exec_enable h]
  refine ⟨fun above => by rw [commitRule_of_above above, State.conclude_refused], fun w hw => ?_⟩
  rw [commitRule_of_index hw]
  refine ⟨fun hs => by rw [State.enableRule_of_not_disabled hs, State.conclude_refused], fun hs absent => ?_, ?_⟩
  · rw [State.enableRule_of_no_window hs (Staging.toWindow_of_absent absent), State.conclude_refused]
  · intro base size resource dest rights hs staged
    have described := (congrArg Staging.toWindow staged).trans (Staging.toWindow_of_present ..)
    constructor
    · intro unfit
      rw [State.enableRule_of_no_window hs (described.trans (if_neg unfit)), State.conclude_refused]
    · intro hb hd hr
      rw [State.enableRule_of_window hs (described.trans (if_pos ⟨hb, hd, hr⟩))]
      constructor
      · intro meets
        rw [if_pos (State.overlapsTable_iff.mpr meets), State.conclude_refused]
      · intro apart
        rw [if_neg (mt State.overlapsTable_iff.mp apart), State.conclude_done]

/-! ## DISABLE (R17) and RIGHTS (R22) -/

section

variable {s : State} {p : PortId} {w : WindowId}

theorem State.disableRule_of_enabled (h : (s.window w).state = .enabled) :
    s.disableRule w = .done (s.setWindowState w (s.window w).disabledState) :=
  if_pos (beq_iff_eq.mpr h)

theorem State.disableRule_of_not_enabled (h : (s.window w).state ≠ .enabled) :
    s.disableRule w = .refused .wrongState :=
  if_neg (mt beq_iff_eq.mp h)

theorem State.rightsRule_of_disabled (h : (s.window w).state = .disabled) :
    s.rightsRule p w = .refused .wrongState :=
  if_pos (beq_iff_eq.mpr h)

theorem State.rightsRule_of_absent (h : (s.window w).state ≠ .disabled) (hr : (s.port p).staging.rights = none) :
    s.rightsRule p w = .refused .badValue := by
  simp [State.rightsRule, h, hr]

theorem State.rightsRule_of_staged {list : RightsList} (h : (s.window w).state ≠ .disabled)
    (hr : (s.port p).staging.rights = some list) :
    s.rightsRule p w = .done ((s.modifyWindow w (fun win => { win with rights := list })).broadcast
      (.windowChanged w (s.window w).state)) := by
  simp [State.rightsRule, h, hr]

end

/-- Settles O29: the rule splits on whether the window is ENABLED, and takes the state of R17 from its count. -/
theorem disable : Obligations.Disable := by
  intro s p value w h hw
  rw [exec_disable h, commitRule_of_index hw]
  exact ⟨fun hs => by rw [State.disableRule_of_not_enabled hs, State.conclude_refused],
    fun hs => by rw [State.disableRule_of_enabled hs, State.conclude_done]; rfl⟩

/-- Settles O31: the rule of RIGHTS branch by branch, and the index check that the commits share. -/
theorem rightsCommit : Obligations.RightsCommit := by
  constructor
  · intro s p value h w hw
    rw [exec_rights h, commitRule_of_index hw]
    exact ⟨fun hs => by rw [State.rightsRule_of_disabled hs, State.conclude_refused],
      fun hs absent => by rw [State.rightsRule_of_absent hs absent, State.conclude_refused],
      fun list hs staged => by rw [State.rightsRule_of_staged hs staged, State.conclude_done]⟩
  · intro s p value row hrow h above
    simp only [List.mem_cons, List.not_mem_nil, or_false] at hrow
    obtain rfl | rfl | rfl := hrow
    · exact (exec_disable h).trans (by rw [commitRule_of_above above, State.conclude_refused])
    · exact (exec_purge h).trans (by rw [commitRule_of_above above, State.conclude_refused])
    · exact (exec_rights h).trans (by rw [commitRule_of_above above, State.conclude_refused])

/-! ## The staging record and the selectors (R11, R57, R181) -/

@[simp] theorem State.stageRule_none {α : Type} (s : State) (p : PortId) (put : Staging → α → Staging) :
    s.stageRule p none put = .refused .badValue := rfl

@[simp] theorem State.stageRule_some {α : Type} (s : State) (p : PortId) (x : α) (put : Staging → α → Staging) :
    s.stageRule p (some x) put = .done (s.modifyPort p (fun port => { port with staging := put port.staging x })) := rfl

/-- The test of a staged base: a multiple of the page size up to a limit. -/
theorem pageBase_iff {n limit : Nat} :
    (n % Config.pageSize == 0 && decide (n ≤ limit)) = true ↔ n % 4096 = 0 ∧ n ≤ limit := by
  simp [Config.pageSize]

theorem stagedBase_eq (value : List Byte) :
    stagedBase value =
      if bytesAt value 0 7 % 4096 = 0 ∧ bytesAt value 0 7 ≤ 2 ^ 36 - 4096 then some (bytesAt value 0 7) else none :=
  if_congr pageBase_iff rfl rfl

theorem isWindowSize_iff {n : Nat} : isWindowSize n = true ↔ ∃ k, k ≤ 20 ∧ n = 2 ^ (12 + k) := by
  simp [isWindowSize, Nat.lt_succ_iff, Nat.add_comm]

theorem stagedSize_of_power {value : List Byte} {k : Nat} (hk : k ≤ 20) (h : bytesAt value 0 7 = 2 ^ (12 + k)) :
    stagedSize value = some (bytesAt value 0 7) :=
  if_pos (isWindowSize_iff.mpr ⟨k, hk, h⟩)

theorem stagedSize_of_no_power {value : List Byte} (h : ∀ k, k ≤ 20 → bytesAt value 0 7 ≠ 2 ^ (12 + k)) :
    stagedSize value = none :=
  if_neg (fun hs => by obtain ⟨k, hk, he⟩ := isWindowSize_iff.mp hs; exact h k hk he)

/-- R183: the resource codes are 0 and 1. -/
theorem Resource.ofCode_eq (n : Nat) :
    Resource.ofCode n = if n = 0 then some .ls else if n = 1 then some .xb else none := by
  match n with
  | 0 => rfl
  | 1 => rfl
  | n + 2 => rfl

/-- The base of a staged destination lies in the range of R11 for the resource that byte 6 names. -/
theorem stagedDest_eq (value : List Byte) :
    stagedDest value =
      if bytesAt value 6 1 = 0 ∧ bytesAt value 0 6 % 4096 = 0 ∧ bytesAt value 0 6 ≤ 2 ^ 19 - 4096 then
        some (.ls, bytesAt value 0 6)
      else if bytesAt value 6 1 = 1 ∧ bytesAt value 0 6 % 4096 = 0 ∧ bytesAt value 0 6 ≤ 2 ^ 32 - 4096 then
        some (.xb, bytesAt value 0 6)
      else none := by
  unfold stagedDest
  rw [Resource.ofCode_eq]
  by_cases h0 : bytesAt value 6 1 = 0
  · simp only [h0, true_and, if_true, zero_ne_one, false_and, if_false]
    exact if_congr pageBase_iff rfl rfl
  · by_cases h1 : bytesAt value 6 1 = 1
    · simp only [h1, one_ne_zero, true_and, if_true, false_and, if_false]
      exact if_congr pageBase_iff rfl rfl
    · simp [h0, h1]

/-- R183: every value of two bits is the code of the rights it names. -/
theorem Rights.code_ofCode {n : Nat} (h : n < 4) : (Rights.ofCode n).code = n := by
  interval_cases n <;> rfl

theorem stagedRights_code (value : List Byte) (k : PortId) :
    (stagedRights value)[k].code = bytesAt value 0 1 / 4 ^ k.val % 4 := by
  simp [stagedRights, Rights.code_ofCode (Nat.mod_lt _ (by decide : 4 > 0))]

section

variable {s : State} {p : PortId} {value : List Byte}

theorem State.wviewSelRule_of_index {w : WindowId} (h : bytesAt value 0 1 = w.val) :
    s.wviewSelRule p value = .done (s.modifyPort p (fun port => { port with wviewSel := w })) := by
  simp only [State.wviewSelRule, windowIndex_eq h]

theorem State.wviewSelRule_of_above (h : 15 < bytesAt value 0 1) :
    s.wviewSelRule p value = .refused .badValue := by
  simp only [State.wviewSelRule, windowIndex_none h]

theorem State.tviewSelRule_of_tag {t : Tag} (h : bytesAt value 0 1 = t.val) :
    s.tviewSelRule p value = .done (s.modifyPort p (fun port => { port with tviewSel := t })) := by
  simp only [State.tviewSelRule, selectedTag_eq h]

theorem State.tviewSelRule_of_above (h : 13 < bytesAt value 0 1) :
    s.tviewSelRule p value = .refused .badValue := by
  simp only [State.tviewSelRule, selectedTag_none h]

end

/-- Settles O32: each register's value lies within its range or does not, and its rule answers accordingly. -/
theorem stagingAndSelectors : Obligations.StagingAndSelectors := by
  intro s p value
  refine ⟨fun h => ?host, fun h => ?size, fun h => ?dest, fun h => ?rights, fun h => ?wview, fun h => ?tview⟩
  case host =>
    rw [exec_wstgHost h, stagedBase_eq]
    split
    · rw [State.stageRule_some, State.conclude_done]
    · rw [State.stageRule_none, State.conclude_refused]
  case size =>
    rw [exec_wstgSize h]
    exact ⟨fun k hk hn => by rw [stagedSize_of_power hk hn, State.stageRule_some, State.conclude_done],
      fun hn => by rw [stagedSize_of_no_power hn, State.stageRule_none, State.conclude_refused]⟩
  case dest =>
    rw [exec_wstgDest h, stagedDest_eq]
    dsimp only
    split
    · rw [State.stageRule_some, State.conclude_done]
    · split
      · rw [State.stageRule_some, State.conclude_done]
      · rw [State.stageRule_none, State.conclude_refused]
  case rights => exact ⟨stagedRights value, exec_wstgRights h, stagedRights_code value⟩
  case wview =>
    rw [exec_wviewSel h]
    exact ⟨fun w hw => by rw [State.wviewSelRule_of_index hw, State.conclude_done],
      fun above => by rw [State.wviewSelRule_of_above above, State.conclude_refused]⟩
  case tview =>
    rw [exec_tviewSel h]
    exact ⟨fun t ht => by rw [State.tviewSelRule_of_tag ht, State.conclude_done],
      fun above => by rw [State.tviewSelRule_of_above above, State.conclude_refused]⟩

end Sys2Proof.Machine
end

section
/-! SUPPORT. Posted writes and the ordering fence: which entries the overlap check acts on and what it leaves of each, and
the statement about it. -/

namespace Sys2Proof.Machine

/-! ## The overlap check (R63 to R66) -/

theorem rangesOverlap_iff {a m b n : Nat} : rangesOverlap a m b n = true ↔ a < b + n ∧ b < a + m := by
  simp [rangesOverlap]

/-- R63: a write to these bytes concerns the entry, whatever its state: they share the resource and a byte, and the
freshness count is below its limit. -/
def Entry.MetBy (e : Entry) (r : Resource) (dest count : Nat) : Prop :=
  e.resource = r ∧ e.dest < dest + count ∧ dest < e.dest + e.count ∧ e.fresh < 4

/-- R64 to R66: the states in which an entry of the kind gives way to a write. -/
def Phase.givesWay (kind : EntryKind) : Phase → Bool
  | .waiting _ => true
  | .fetching _ => kind == .read
  | .ready _ _ => kind == .read
  | .orphaned => false

theorem Entry.actedOn_eq (e : Entry) (r : Resource) (dest count : Nat) :
    e.actedOn r dest count =
      (e.resource == r && rangesOverlap e.dest e.count dest count && decide (e.fresh < 4) && e.phase.givesWay e.kind) :=
  rfl

/-- The overlap check acts on the entries that the write concerns and whose state gives way. -/
theorem Entry.actedOn_iff {e : Entry} {r : Resource} {dest count : Nat} :
    e.actedOn r dest count = true ↔ e.MetBy r dest count ∧ e.phase.givesWay e.kind = true := by
  simp [Entry.actedOn_eq, Entry.MetBy, rangesOverlap_iff, and_assoc]

section

variable {e : Entry} {r : Resource} {dest count : Nat} (occupancy : Nat)

theorem Entry.overlapCheck_of_not_metBy (h : ¬e.MetBy r dest count) : e.overlapCheck r dest count occupancy = e :=
  if_neg (fun acted => h (Entry.actedOn_iff.mp acted).1)

theorem Entry.overlapCheck_of_metBy (h : e.MetBy r dest count) :
    e.overlapCheck r dest count occupancy =
      if e.phase.givesWay e.kind = true then { e with phase := e.phase.overtaken occupancy, fresh := e.fresh + 1 }
      else e :=
  if_congr (Entry.actedOn_iff.trans (and_iff_right h)) rfl rfl

end

/-- Settles O22: an entry that the write does not concern stays, and one that it concerns is decided by its state, and by
its kind in FETCHING and READY. -/
theorem overlapCheck : Obligations.OverlapCheck := by
  intro e r dest count occupancy
  refine ⟨Entry.overlapCheck_of_not_metBy occupancy, fun met => ?_⟩
  have check := Entry.overlapCheck_of_metBy occupancy met
  cases phase : e.phase with
  | waiting n => simpa only [phase, Phase.givesWay, Phase.overtaken, if_true] using check
  | fetching refetch => simpa only [phase, Phase.givesWay, Phase.overtaken, beq_iff_eq] using check
  | ready result remaining => simpa only [phase, Phase.givesWay, Phase.overtaken, beq_iff_eq] using check
  | orphaned => simpa only [phase, Phase.givesWay, Bool.false_eq_true, if_false] using check

end Sys2Proof.Machine
end

section
/-! SUPPORT. The cycle of the Local Store Arbiter: how far ahead of the last-granted position another one stands, what a
grant does to that distance, and the statement about the wait of a position that keeps requesting. -/

namespace Sys2Proof.Machine

/-! ## Places in the cycle (R98, R100) -/

theorem Position.place_lt (pos : Position) : pos.place < 6 := by
  cases pos with
  | port p => exact p.isLt.trans (by decide)
  | drain => decide
  | fetch => decide

theorem map_place_positionCycle : positionCycle.map Position.place = List.range 6 := by decide

theorem positionCycle_getElem?_place (pos : Position) : positionCycle[pos.place]? = some pos := by
  cases pos with
  | port p => revert p; decide
  | drain => rfl
  | fetch => rfl

/-- The cycle holds each position at its own place only. -/
theorem positionCycle_getElem?_eq_some_iff {n : Nat} {pos : Position} :
    positionCycle[n]? = some pos ↔ n = pos.place := by
  refine ⟨fun found => ?_, fun atPlace => atPlace ▸ positionCycle_getElem?_place pos⟩
  have place : (List.range 6)[n]? = some pos.place := by
    rw [← map_place_positionCycle, List.getElem?_map, found, Option.map_some]
  obtain ⟨_, value⟩ := List.getElem?_eq_some_iff.mp place
  rwa [List.getElem_range] at value

theorem cycleAfter_eq_rotate (last : Position) : cycleAfter last = positionCycle.rotate (last.place + 1) :=
  (List.rotate_eq_drop_append_take last.place_lt).symm

theorem cycleAfter_length (last : Position) : (cycleAfter last).length = 6 := by
  rw [cycleAfter_eq_rotate, List.length_rotate]; rfl

theorem cycleAfter_getElem? (last : Position) {i : Nat} (h : i < 6) :
    (cycleAfter last)[i]? = positionCycle[(i + (last.place + 1)) % 6]? := by
  rw [cycleAfter_eq_rotate]; exact List.getElem?_rotate h

/-- How many positions stand before `pos` in the cycle that follows `last`. -/
def Position.before (last pos : Position) : Nat :=
  (pos.place + 5 - last.place) % 6

theorem Position.before_lt (last pos : Position) : last.before pos < 6 :=
  Nat.mod_lt _ (by decide)

theorem cycleAfter_getElem?_eq_some_iff {last pos : Position} {i : Nat} (h : i < 6) :
    (cycleAfter last)[i]? = some pos ↔ i = last.before pos := by
  rw [cycleAfter_getElem? last h, positionCycle_getElem?_eq_some_iff, Position.before]
  have := last.place_lt
  have := pos.place_lt
  omega

theorem Position.before_inj {last a b : Position} : last.before a = last.before b ↔ a = b := by
  refine ⟨fun same => ?_, fun same => same ▸ rfl⟩
  have atA := (cycleAfter_getElem?_eq_some_iff (last.before_lt a)).mpr rfl
  have atB := (cycleAfter_getElem?_eq_some_iff (last.before_lt a)).mpr same
  exact Option.some.inj (atA.symm.trans atB)

/-- From a position that stands before `pos`, fewer positions are left before `pos`. -/
theorem Position.before_lt_before {last granted pos : Position} (h : last.before granted < last.before pos) :
    granted.before pos < last.before pos := by
  simp only [Position.before] at h ⊢
  have := last.place_lt
  have := granted.place_lt
  have := pos.place_lt
  omega

/-! ## What a grant does to the wait (R100, R101) -/

section

variable {requests : Position → Bool} {last granted pos : Position}

/-- No requesting position stands before the one that is granted. -/
theorem before_granted_le (grant : (cycleAfter last).find? requests = some granted) (h : requests pos = true) :
    last.before granted ≤ last.before pos := by
  obtain ⟨-, i, hi, atI, silent⟩ := List.find?_eq_some_iff_getElem.mp grant
  have grantedAt : i = last.before granted :=
    (cycleAfter_getElem?_eq_some_iff (cycleAfter_length last ▸ hi)).mp (List.getElem?_eq_some_iff.mpr ⟨hi, atI⟩)
  by_contra later
  have posAt := (cycleAfter_getElem?_eq_some_iff (last.before_lt pos)).mpr rfl
  obtain ⟨_, atPos⟩ := List.getElem?_eq_some_iff.mp posAt
  have quiet := silent (last.before pos) (by omega)
  simp [atPos, h] at quiet

/-- A grant goes to a position that requests, or leaves fewer positions before it. -/
theorem granted_or_before_lt (grant : (cycleAfter last).find? requests = some granted) (h : requests pos = true) :
    granted = pos ∨ granted.before pos < last.before pos :=
  (before_granted_le grant h).eq_or_lt.imp Position.before_inj.mp Position.before_lt_before

/-- While every position requests, a grant goes to the head of the cycle. -/
theorem find?_cycleAfter_of_forall (h : ∀ pos, requests pos = true) :
    (cycleAfter last).find? requests = positionCycle[(last.place + 1) % 6]? := by
  calc (cycleAfter last).find? requests
      _ = (cycleAfter last)[0]? := by
        rw [← List.head?_filter, List.filter_eq_self.mpr fun pos _ => h pos, List.head?_eq_getElem?]
      _ = positionCycle[(last.place + 1) % 6]? := by rw [cycleAfter_getElem? last (by decide), Nat.zero_add]

end

/-- After `n` grants a position that kept requesting is granted, or the positions before it are `n` fewer than the five
there can be. -/
theorem granted_within_or_before_le {requests : Nat → Position → Bool} {last : Nat → Position} {pos : Position} {n : Nat}
    (keeps : ∀ k, k < n → requests k pos = true)
    (grants : ∀ k, k < n → (cycleAfter (last k)).find? (requests k) = some (last (k + 1))) :
    (∃ k, k < n ∧ last (k + 1) = pos) ∨ (last n).before pos + n ≤ 5 := by
  induction n with
  | zero => exact .inr (Nat.le_of_lt_succ ((last 0).before_lt pos))
  | succ n ih =>
    obtain ⟨k, hk, granted⟩ | waits := ih (fun k hk => keeps k (by omega)) (fun k hk => grants k (by omega))
    · exact .inl ⟨k, by omega, granted⟩
    · obtain granted | nearer := granted_or_before_lt (grants n (by omega)) (keeps n (by omega))
      · exact .inl ⟨n, by omega, granted⟩
      · exact .inr (by omega)

/-- Settles O45: each grant to another position brings a requesting position nearer, and at most five stand before it. -/
theorem cycleServesEveryPosition : Obligations.CycleServesEveryPosition := by
  refine ⟨fun requests last pos keeps grants => ?_, fun requests last all => find?_cycleAfter_of_forall all⟩
  obtain served | waits := granted_within_or_before_le keeps grants
  · exact served
  · omega

end Sys2Proof.Machine
end

section
/-! SUPPORT. The items of expansion bus targets: which transaction an item belongs to, what each item does to it from a state
at rest, and the statement about the items that change nothing. -/

namespace Sys2Proof.Machine

/-! ## The transaction an item belongs to (R115) -/

section

variable {s : State} {n : TransactionNumber} {t : Transaction}

/-- No transaction in progress carries the number of a late answer. -/
theorem State.current_eq_none_iff : s.current n = none ↔ ∀ t, s.xbm.bus = .active t → t.number ≠ n := by
  cases bus : s.xbm.bus with
  | idle => simp [State.current, bus]
  | active t => simp [State.current, bus]
  | reset => simp [State.current, bus]

theorem State.current_of_active (h : s.xbm.bus = .active t) : s.current t.number = some t := by
  simp [State.current, h]

end

theorem Transaction.isWrite_iff {t : Transaction} : t.isWrite = true ↔ t.stream = .drain :=
  beq_iff_eq

theorem Transaction.not_isWrite_iff {t : Transaction} : (!t.isWrite) = true ↔ t.stream = .fetch := by
  cases h : t.stream with
  | drain => simp [Transaction.isWrite, h]
  | fetch => simp [Transaction.isWrite, h]

/-! ## What an item does to its transaction, from a state at rest (R110 to R112) -/

section

variable {s : State} (h : s.atRest) (n : TransactionNumber)

include h

theorem exec_addressTaken :
    exec (.addressTaken n) s =
      .next ((s.current n).elim s fun t => if t.phase = .address then s.beginData t else s) := by
  change execAddressTaken n s = _
  simp only [execAddressTaken, State.atOnce_of_atRest h]
  cases s.current n with
  | none => rfl
  | some t => rfl

theorem exec_writeBeatTaken :
    exec (.writeBeatTaken n) s =
      .next ((s.current n).elim s fun t => if t.stream = .drain ∧ t.phase = .data then s.beatTaken t else s) := by
  change execWriteBeatTaken n s = _
  simp only [execWriteBeatTaken, State.atOnce_of_atRest h, Bool.and_eq_true, Transaction.isWrite_iff, beq_iff_eq]
  cases s.current n with
  | none => rfl
  | some t => rfl

theorem exec_readBeat (data : List Byte) :
    exec (.readBeat n data) s =
      .next ((s.current n).elim s fun t =>
        if t.stream = .fetch ∧ t.phase = .data then s.takeReadBeat t data else s) := by
  change execReadBeat n data s = _
  simp only [execReadBeat, State.atOnce_of_atRest h, Bool.and_eq_true, Transaction.not_isWrite_iff, beq_iff_eq]
  cases s.current n with
  | none => rfl
  | some t => rfl

theorem exec_ending (how : TargetEnding) :
    exec (.ending n how) s =
      .next ((s.current n).elim s fun t => (s.completeTransaction t (t.endedBy how)).grantBus) := by
  change execEnding n how s = _
  simp only [execEnding, State.atOnce_of_atRest h]
  cases s.current n with
  | none => rfl
  | some t => rfl

end

/-- Settles O43: a late item belongs to no transaction, and one with the current number meets the guard of its kind. -/
theorem lateAnswers : Obligations.LateAnswers := by
  constructor
  · intro s n rest other
    have late : s.current n = none := State.current_eq_none_iff.mpr other
    exact ⟨by rw [exec_addressTaken rest, late, Option.elim_none],
      by rw [exec_writeBeatTaken rest, late, Option.elim_none],
      fun data => by rw [exec_readBeat rest, late, Option.elim_none],
      fun how => by rw [exec_ending rest, late, Option.elim_none]⟩
  · intro s t rest active
    have mine : s.current t.number = some t := State.current_of_active active
    refine ⟨fun begun => ?address, fun unexpected => ?write, fun unexpected data => ?read⟩
    case address => rw [exec_addressTaken rest, mine, Option.elim_some, if_neg begun]
    case write =>
      have guard : ¬(t.stream = .drain ∧ t.phase = .data) := by
        rintro ⟨drains, moves⟩
        simp [drains, moves] at unexpected
      rw [exec_writeBeatTaken rest, mine, Option.elim_some, if_neg guard]
    case read =>
      have guard : ¬(t.stream = .fetch ∧ t.phase = .data) := by
        rintro ⟨fetches, moves⟩
        simp [fetches, moves] at unexpected
      rw [exec_readBeat rest, mine, Option.elim_some, if_neg guard]

end Sys2Proof.Machine
end

section
/-! SUPPORT. Host ports and the host link: the answer to one port, the taking of a frame that fails its integrity check, and
the statement about it. -/

namespace Sys2Proof.Machine

/-! ## The answer at its own port and at the others (R132) -/

section

variable (s : State) {p q : PortId} (r : Response)

theorem State.port_answer_same : (s.answer p r).port p = { s.port p with inHand := some (.decided r) } := by
  rw [State.port_answer, if_pos rfl, Port.answer]

theorem State.port_answer_ne (h : q ≠ p) : (s.answer p r).port q = s.port q := by
  rw [State.port_answer, if_neg h]

end

/-! ## A frame that fails its integrity check (R128) -/

/-- Whatever else a frame holds, a failed integrity check alone makes its row. -/
theorem row_eq_resend_of_not_intact {f : Frame} (h : f.intact = false) : f.row = .resend := by
  simp [Frame.row, h]

/-- The rule of RESEND reads nothing of the frame: all it does is the answer. -/
theorem exec_resend {s : State} {p : PortId} {f : Frame} (h : s.takes p .resend f) :
    exec (.resend p) s = .next (s.answer p .resend) :=
  congrArg Host.Outcome.next (State.take_of_takes h (fun s _ => s.answer p .resend))

/-- Settles O15: the failed check makes the row RESEND, whose rule is the answer alone, and an answer reaches its own port
only. -/
theorem resend : Obligations.Resend := by
  intro s p f rest taken broken
  have takes : s.takes p .resend f := ⟨taken, row_eq_resend_of_not_intact broken, rest⟩
  exact ⟨s.answer p .resend, exec_resend takes, rfl, s.port_answer_same .resend, fun _ other => s.port_answer_ne .resend other⟩

end Sys2Proof.Machine
end

section
/-! SUPPORT. The configuration claim: what a CLAIM write is decided by, what the rule of each of its commands answers by who
holds the claim, and the statements about ACQUIRE, RELEASE and RENEW. -/

namespace Sys2Proof.Machine

/-! ## The CLAIM writes are decided by the rule of their command (R147 to R149) -/

section

variable {s : State} {p : PortId} {value : List Byte}

theorem exec_acquire (h : s.takesWrite p .acquire value) :
    exec (.acquire p) s = .next (s.conclude p (s.acquireRule p)) :=
  congrArg Host.Outcome.next (State.take_controlWrite h rfl rfl (.inl rfl) (fun s _ => s.acquireRule p))

theorem exec_renew (h : s.takesWrite p .renew value) :
    exec (.renew p) s = .next (s.conclude p (s.renewRule p)) :=
  congrArg Host.Outcome.next (State.take_controlWrite h rfl rfl (.inl rfl) (fun s _ => s.renewRule p))

theorem exec_release (h : s.takesWrite p .release value) :
    exec (.release p) s = .next (s.conclude p (s.releaseRule p)) :=
  congrArg Host.Outcome.next (State.take_controlWrite h rfl rfl (.inl rfl) (fun s _ => s.releaseRule p))

end

/-! ## What each rule answers, by who holds the claim (R145) -/

section

variable {s : State} {p : PortId}

theorem State.holds_iff : s.holds p = true ↔ ∃ h, s.claim.held = some h ∧ h.holder = p := by
  cases held : s.claim.held with
  | none => simp [State.holds, held]
  | some h => simp [State.holds, held]

theorem State.acquireRule_of_free (free : s.claim.held = none) : s.acquireRule p = .done (s.grantClaim p) := by
  simp only [State.acquireRule, free]

theorem State.acquireRule_of_holds (own : s.holds p = true) : s.acquireRule p = .done (s.grantClaim p) := by
  obtain ⟨h, held, mine⟩ := State.holds_iff.mp own
  simp only [State.acquireRule, held, if_pos mine]

theorem State.acquireRule_of_other {h : Holding} (held : s.claim.held = some h) (other : h.holder ≠ p) :
    s.acquireRule p = .refused .claimed := by
  simp only [State.acquireRule, held, if_neg other]

theorem State.renewRule_of_holds (own : s.holds p = true) : s.renewRule p = .done (s.grantClaim p) :=
  if_pos own

theorem State.renewRule_of_not_holds (lacks : s.holds p = false) : s.renewRule p = .refused .notHolder :=
  if_neg (Bool.eq_false_iff.mp lacks)

theorem State.releaseRule_of_holds (own : s.holds p = true) : s.releaseRule p = .done (s.freeClaim p) :=
  if_pos own

theorem State.releaseRule_of_not_holds (lacks : s.holds p = false) : s.releaseRule p = .refused .notHolder :=
  if_neg (Bool.eq_false_iff.mp lacks)

end

/-- Settles O26: ACQUIRE by the three cases of the claim (free, its own, another's), RELEASE by whether the port holds it. -/
theorem acquireAndRelease : Obligations.AcquireAndRelease := by
  refine fun s p value => ⟨fun taken => ?acquire, fun taken => ?release⟩
  case acquire =>
    rw [exec_acquire taken]
    refine ⟨?granted, fun h held other => by rw [State.acquireRule_of_other held other, State.conclude_refused]⟩
    rintro (free | own)
    · rw [State.acquireRule_of_free free, State.conclude_done]; rfl
    · rw [State.acquireRule_of_holds own, State.conclude_done]; rfl
  case release =>
    rw [exec_release taken]
    exact ⟨fun own => by rw [State.releaseRule_of_holds own, State.conclude_done]; rfl,
      fun lacks => by rw [State.releaseRule_of_not_holds lacks, State.conclude_refused]⟩

/-- Settles O27: the rule of RENEW is the grant of a full lease to the holder, and a refusal otherwise. -/
theorem renew : Obligations.Renew := by
  intro s p value taken
  rw [exec_renew taken]
  exact ⟨fun own => by rw [State.renewRule_of_holds own, State.conclude_done]; rfl,
    fun lacks => by rw [State.renewRule_of_not_holds lacks, State.conclude_refused]⟩

end Sys2Proof.Machine
end

section
/-! SUPPORT. Event queues, notices and attention: what a queue without an OVERFLOW record makes of an offered record, what
NOTICE, EVPOP and ATTNEN are decided by and what each rule answers, bit by bit for the attention enable set, and the
statements about them. -/

namespace Sys2Proof.Machine

/-! ## A record offered to a queue (R161) -/

/-- R161: without an OVERFLOW record the length alone decides what is appended. -/
theorem appendRecord_of_no_overflow {queue : List Record} (h : ∀ x ∈ queue, ∀ n, x ≠ .overflow n) (r : Record) :
    appendRecord queue r = if queue.length < 15 then queue ++ [r] else queue ++ [.overflow 1] := by
  rcases appendRecord_cases queue r with ⟨ahead, n, rfl, -⟩ | ⟨-, appended⟩
  · exact absurd rfl (h (.overflow n) (by simp) n)
  · exact appended

/-- Settles O48: the two branches of the length test, at fewer than 15 records and at 15. -/
theorem queueAppends : Obligations.QueueAppends := by
  intro queue r noOverflow
  rw [appendRecord_of_no_overflow noOverflow]
  refine ⟨fun room => ?_, fun full => if_neg (by omega)⟩
  rw [if_pos room]
  exact ⟨rfl, List.length_append⟩

section

variable {s : State} {p : PortId}

/-- Updates that agree on the record of the port they change are one. -/
theorem State.modifyPort_congr {f g : Port → Port} (h : f (s.port p) = g (s.port p)) :
    s.modifyPort p f = s.modifyPort p g :=
  congrArg (fun port => { s with ports := s.ports.set p port }) h

/-- R160: an ONLINE port keeps what it is offered. -/
theorem State.offer_of_online (h : s.online p = true) (r : Record) :
    s.offer p r = s.modifyPort p (fun port => { port with queue := appendRecord port.queue r }) :=
  State.modifyPort_congr (if_pos h)

end

/-! ## Control writes from a port that is not ONLINE (R133) -/

/-- R133: from a port that is not ONLINE the port state decides before the register's own rule, but at PJOIN. -/
theorem State.take_controlWrite_of_not_online {s : State} {p : PortId} {row : TakeRow} {f : Frame} (h : s.takes p row f)
    (absent : s.online p = false) {r : Reg} (hr : r ≠ .pjoin) (rule : State → List Byte → Verdict) :
    s.take p row (fun s f => s.controlWrite p r (f.payload .ctlWrite) (rule s (f.payload .ctlWrite))) =
      s.answer p (.refused .notJoined) := by
  rw [State.take_of_takes h]
  simp [State.controlWrite, State.writeRefusal, absent, hr]

/-! ## NOTICE (R166) -/

section

variable {s : State} {p : PortId} {value : List Byte}

theorem exec_notice_of_not_online {f : Frame} (h : s.takes p .notice f) (absent : s.online p = false) :
    exec (.notice p) s = .next (s.answer p (.refused .notJoined)) :=
  congrArg Host.Outcome.next
    (State.take_controlWrite_of_not_online h absent (by decide) (fun s => s.noticeRule p))

theorem exec_notice (h : s.takesWrite p .notice value) :
    exec (.notice p) s = .next (s.conclude p (s.noticeRule p value)) :=
  congrArg Host.Outcome.next (State.take_controlWrite h rfl rfl (.inl rfl) (fun s => s.noticeRule p))

theorem State.noticeRule_of_above (h : 3 < bytesAt value 0 1) : s.noticeRule p value = .refused .badValue := by
  simp only [State.noticeRule, targetPort_none h]

theorem State.noticeRule_of_absent {t : PortId} (h : bytesAt value 0 1 = t.val) (absent : s.online t = false) :
    s.noticeRule p value = .refused .portAbsent := by
  simp [State.noticeRule, targetPort_eq h, absent]

theorem State.noticeRule_of_online {t : PortId} (h : bytesAt value 0 1 = t.val) (online : s.online t = true) :
    s.noticeRule p value = .done (s.offer t (.notice p (noticePayload value))) := by
  simp only [State.noticeRule, targetPort_eq h, if_pos online]

end

/-- Settles O34: the rule of NOTICE by its target: above 3, not ONLINE, or ONLINE, whose queue keeps the record offered. -/
theorem notice : Obligations.Notice := by
  refine ⟨fun s p f taken absent => exec_notice_of_not_online taken absent, fun s p value taken => ?_⟩
  rw [exec_notice taken]
  refine ⟨fun above => by rw [State.noticeRule_of_above above, State.conclude_refused], fun t target => ?_⟩
  by_cases absent : s.online t = false
  · rw [if_pos absent, State.noticeRule_of_absent target absent, State.conclude_refused]
  · have online : s.online t = true := Bool.not_eq_false _ ▸ absent
    rw [if_neg absent, State.noticeRule_of_online target online, State.conclude_done, State.offer_of_online online,
      noticePayload]

/-! ## EVPOP (R163) -/

section

variable {s : State} {p : PortId} {f : Frame}

theorem exec_evpop_of_width (h : s.takes p .evpop f) (width : f.count = 16) :
    exec (.evpop p) s = .next ((s.popQueue p).answer p (.data (headRecordBytes (s.port p).queue) none)) :=
  congrArg Host.Outcome.next ((State.take_of_takes h _).trans (if_pos (beq_iff_eq.mpr width)))

theorem exec_evpop_of_other_width (h : s.takes p .evpop f) (width : f.count ≠ 16) :
    exec (.evpop p) s = .next (s.answer p (.refused .wrongAccess)) :=
  congrArg Host.Outcome.next ((State.take_of_takes h _).trans (if_neg (mt beq_iff_eq.mp width)))

theorem State.popQueue_of_empty (empty : (s.port p).queue = []) : s.popQueue p = s :=
  State.modifyPort_of_fixed (by rw [empty, List.tail_nil, ← empty])

theorem State.popQueue_of_head {r : Record} {rest : List Record} (head : (s.port p).queue = r :: rest) :
    s.popQueue p = s.modifyPort p (fun port => { port with queue := rest }) :=
  State.modifyPort_congr (by rw [head, List.tail_cons])

end

/-- Settles O35: the length is that of EVPOP or not; where it is, the queue is empty or has a head. -/
theorem evPop : Obligations.EvPop := by
  intro s p f taken
  refine ⟨fun width empty => ?empty, fun r rest width head => ?head, exec_evpop_of_other_width taken⟩
  case empty => rw [exec_evpop_of_width taken width, State.popQueue_of_empty empty, empty]; rfl
  case head => rw [exec_evpop_of_width taken width, State.popQueue_of_head head, head, headRecordBytes]

/-! ## The attention enable set, bit by bit (R168, R169) -/

/-- R168: the bit of a record kind is at the position of its code, 1 to 10. -/
theorem getLsbD_allKinds (i : Nat) : Config.allKinds.getLsbD i = decide (1 ≤ i ∧ i ≤ 10) := by
  by_cases h : i < 16
  · interval_cases i <;> rfl
  · rw [BitVec.getLsbD_of_ge _ _ (by omega), decide_eq_false (by omega)]

/-- R168: OVERFLOW is the kind of code 10. -/
theorem getLsbD_overflowKind (i : Nat) : Config.overflowKind.getLsbD i = (i == 10) := by
  have power : Config.overflowKind = BitVec.twoPow 16 10 := by decide
  rw [power, BitVec.getLsbD_twoPow, Bool.eq_iff_iff]
  simp only [Bool.and_eq_true, decide_eq_true_eq, beq_iff_eq]
  omega

theorem kindsOnly_iff {l : BitVec 16} : kindsOnly l = true ↔ ∀ i, l.getLsbD i = true → 1 ≤ i ∧ i ≤ 10 := by
  rw [kindsOnly, beq_iff_eq]
  constructor
  · intro rest i named
    have outside := congrArg (fun l : BitVec 16 => l.getLsbD i) rest
    have kind : Config.allKinds.getLsbD i = true := by simpa [named, BitVec.lt_of_getLsbD named] using outside
    exact of_decide_eq_true (getLsbD_allKinds i ▸ kind)
  · intro kinds
    refine BitVec.eq_of_getLsbD_eq fun i hi => ?_
    cases named : l.getLsbD i with
    | false => simp [named]
    | true => simp [named, hi, getLsbD_allKinds, kinds i named]

theorem getLsbD_updateKinds (old set clear : BitVec 16) (i : Nat) :
    (updateKinds old set clear).getLsbD i =
      (i == 10 || (old.getLsbD i || set.getLsbD i) && !clear.getLsbD i) := by
  rw [updateKinds, BitVec.getLsbD_or, getLsbD_overflowKind, Bool.or_comm]
  by_cases h : i < 16
  · simp [h]
  · simp [BitVec.getLsbD_of_ge _ i (Nat.le_of_not_lt h)]

/-! ## ATTNEN (R169) -/

section

variable {s : State} {p : PortId} {value : List Byte}

theorem exec_attnen_of_not_online {f : Frame} (h : s.takes p .attnen f) (absent : s.online p = false) :
    exec (.attnen p) s = .next (s.answer p (.refused .notJoined)) :=
  congrArg Host.Outcome.next
    (State.take_controlWrite_of_not_online h absent (by decide) (fun s => s.attnenRule p))

theorem exec_attnen (h : s.takesWrite p .attnen value) :
    exec (.attnen p) s = .next (s.conclude p (s.attnenRule p value)) :=
  congrArg Host.Outcome.next (State.take_controlWrite h rfl rfl (.inl rfl) (fun s => s.attnenRule p))

theorem State.attnenRule_of_kinds (set : kindsOnly (setList value) = true) (clear : kindsOnly (clearList value) = true) :
    s.attnenRule p value = .done (s.modifyPort p (fun port =>
      { port with attnEnable := updateKinds port.attnEnable (setList value) (clearList value) })) :=
  if_pos (Bool.and_eq_true_iff.mpr ⟨set, clear⟩)

theorem State.attnenRule_of_not_kinds (h : ¬(kindsOnly (setList value) = true ∧ kindsOnly (clearList value) = true)) :
    s.attnenRule p value = .refused .badValue :=
  if_neg (mt Bool.and_eq_true_iff.mp h)

end

/-- Settles O36: the rule of ATTNEN by whether both lists name record kinds alone; the new set is the one it computes from the
port's own. -/
theorem attnen : Obligations.Attnen := by
  refine ⟨fun s p f taken absent => exec_attnen_of_not_online taken absent, fun s p value taken => ?_⟩
  intro set clear kinds
  rw [exec_attnen taken]
  refine ⟨fun unnamed => ?refused, fun hset hclear => ?done⟩
  case refused =>
    rw [State.attnenRule_of_not_kinds (mt (And.imp kindsOnly_iff.mp kindsOnly_iff.mp) unnamed), State.conclude_refused]
  case done =>
    refine ⟨updateKinds (s.port p).attnEnable set clear, ?_, getLsbD_updateKinds _ set clear⟩
    rw [State.attnenRule_of_kinds (kindsOnly_iff.mpr hset) (kindsOnly_iff.mpr hclear), State.conclude_done]
    exact congrArg (fun t => Host.Outcome.next (t.answer p (.done none))) (State.modifyPort_congr rfl)

end Sys2Proof.Machine
end

section
/-! SUPPORT. Window references and what becomes of entries: the references that leave a window, an entry that is freed or
discarded, what a purge step or a teardown does to a list of entries; and the statements about the freeing of an entry, its
expiry and the completions. -/

/- The proofs are checked one after another: each that waits for the kernel holds the stack of a thread. -/
set_option Elab.async false

namespace Sys2Proof.Machine

/-! ## One window -/

theorem State.modifyWindow_modifyWindow (s : State) (w : WindowId) (f g : Window → Window) :
    (s.modifyWindow w f).modifyWindow w g = s.modifyWindow w (fun win => g (f win)) := by
  simp [State.modifyWindow]

/-- Updates that agree on the window they change are one. -/
theorem State.modifyWindow_congr {s : State} {w : WindowId} {f g : Window → Window}
    (h : f (s.window w) = g (s.window w)) : s.modifyWindow w f = s.modifyWindow w g :=
  congrArg (fun win => { s with windows := s.windows.set w win }) h

/-- R6, R19: `n` references leave a window, and nothing is announced. -/
def State.unref (s : State) (w : WindowId) (n : Nat) : State :=
  s.modifyWindow w (fun win => win.released n)

@[simp] theorem State.window_unref (s : State) (w v : WindowId) (n : Nat) :
    (s.unref w n).window v = if v = w then (s.window w).released n else s.window v :=
  s.window_modifyWindow w v _

@[simp] theorem State.port_unref (s : State) (w : WindowId) (n : Nat) (q : PortId) : (s.unref w n).port q = s.port q := rfl

theorem State.lastDrainingRef_iff {s : State} {w : WindowId} :
    s.lastDrainingRef w = true ↔ (s.window w).state = .draining ∧ (s.window w).refCount ≤ 1 := by
  simp [State.lastDrainingRef]

/-- A window loses a reference; where that ends its draining, the end is announced. -/
theorem State.endDraining_releaseRef (s : State) (w : WindowId) :
    (s.releaseRef w).endDraining w =
      if s.lastDrainingRef w = true then (s.unref w 1).broadcast (.windowChanged w .disabled) else s.unref w 1 := by
  have drained : ((s.releaseRef w).window w).drained = s.lastDrainingRef w := by
    rw [Bool.eq_iff_iff, State.lastDrainingRef_iff]
    simp [Window.drained, Nat.sub_eq_zero_iff_le]
  rw [State.endDraining, drained]
  by_cases ends : s.lastDrainingRef w = true
  · rw [if_pos ends, if_pos ends, State.setWindowState, State.releaseRef, State.modifyWindow_modifyWindow, State.unref]
    congr 1
    exact State.modifyWindow_congr (by simp [Window.released, State.lastDrainingRef_iff.mp ends])
  · rw [if_neg ends, if_neg ends]
    refine State.modifyWindow_congr ?_
    rw [Window.released, if_neg (mt State.lastDrainingRef_iff.mpr ends)]

/-! ## An entry that becomes FREE (R27, R6, R19) -/

/-- R27: an entry leaves the list and its reference the window, and nothing is announced. -/
def State.vacate (s : State) (e : Entry) : State :=
  { s with drt := s.drt.filter (fun x => x.tag != e.tag) }.unref e.window 1

@[simp] theorem State.window_vacate (s : State) (e : Entry) (w : WindowId) :
    (s.vacate e).window w = if w = e.window then (s.window w).released 1 else s.window w := by
  rw [State.vacate, State.window_unref]
  by_cases h : w = e.window
  · subst h; rfl
  · rw [if_neg h, if_neg h]; rfl

@[simp] theorem State.port_vacate (s : State) (e : Entry) (q : PortId) : (s.vacate e).port q = s.port q := rfl

theorem State.freeEntry_eq (s : State) (e : Entry) :
    s.freeEntry e =
      if s.lastDrainingRef e.window = true then (s.vacate e).broadcast (.windowChanged e.window .disabled)
      else s.vacate e :=
  State.endDraining_releaseRef { s with drt := s.drt.filter (fun x => x.tag != e.tag) } e.window

/-- The records that the end of a window's draining causes, if it ends. -/
def goneRecords (ends : Prop) [Decidable ends] (w : WindowId) : List Record :=
  if ends then [.windowChanged w .disabled] else []

theorem State.port_freeEntry (s : State) (e : Entry) (q : PortId) :
    (s.freeEntry e).port q = (s.port q).offerAll (goneRecords (s.lastDrainingRef e.window = true) e.window) := by
  rw [State.freeEntry_eq, goneRecords]
  split <;> simp

theorem State.window_freeEntry (s : State) (e : Entry) (w : WindowId) :
    (s.freeEntry e).window w = if w = e.window then (s.window w).released 1 else s.window w := by
  rw [State.freeEntry_eq]
  split <;> simp

theorem State.window_discardEntry (s : State) (e : Entry) (cause : DiscardCause) (performed first : Bool) (w : WindowId) :
    (s.discardEntry e cause performed first).window w = if w = e.window then (s.window w).released 1 else s.window w := by
  unfold State.discardEntry
  simp only []
  split
  · split <;> simp [State.window_freeEntry]
  · simp [State.window_freeEntry]

theorem State.discardEntry_drt (s : State) (e : Entry) (cause : DiscardCause) (performed first : Bool) :
    (s.discardEntry e cause performed first).drt = s.drt.filter (fun x => x.tag != e.tag) := by
  unfold State.discardEntry
  simp only []
  split
  · split <;> simp
  · simp

/-- The records a port is offered when an entry is discarded: its own DISCARD, and the end of a draining. -/
theorem State.port_discardEntry (s : State) (e : Entry) (cause : DiscardCause) (performed first : Bool) (q : PortId) :
    (s.discardEntry e cause performed first).port q = (s.port q).offerAll
      (let gone := goneRecords (s.lastDrainingRef e.window = true) e.window
       if q = e.owner then
         if first = true then e.discardRecord cause performed :: gone else gone ++ [e.discardRecord cause performed]
       else gone) := by
  have offered : (s.offer e.owner (e.discardRecord cause performed)).lastDrainingRef e.window = s.lastDrainingRef e.window :=
    rfl
  unfold State.discardEntry goneRecords
  simp only []
  by_cases ends : s.lastDrainingRef e.window = true
  · simp only [ends, if_true]
    by_cases own : q = e.owner
    · subst own
      cases first with
      | true => simp [State.port_freeEntry, goneRecords, offered, ends]
      | false => simp [State.port_freeEntry, goneRecords, ends]
    · cases first with
      | true => simp [State.port_freeEntry, goneRecords, offered, ends, own]
      | false => simp [State.port_freeEntry, goneRecords, ends, own]
  · simp only [ends, Bool.false_eq_true, if_false]
    by_cases own : q = e.owner
    · subst own
      simp [State.port_freeEntry, goneRecords, offered, ends]
    · simp [State.port_freeEntry, goneRecords, offered, ends, own]

/-- Settles O20: an entry leaves the list and its window in both operations; what differs is the records at the owner. -/
theorem freeingAnEntry : Obligations.FreeingAnEntry := by
  intro s e win gone ends freed
  have iff : s.lastDrainingRef e.window = true ↔ ends := State.lastDrainingRef_iff
  refine ⟨⟨⟨?_, fun w => ?_⟩, fun q => ?_⟩, fun cause performed first => ⟨⟨?_, fun w => ?_⟩, fun q => ?_⟩⟩
  · rw [← State.freeEntry_drt']; exact State.freeEntry_frame s e
  · rw [State.window_freeEntry]; exact ite_congr rfl (fun h => by rw [h]) (fun _ => rfl)
  · rw [State.port_freeEntry, goneRecords]; exact congrArg _ (if_congr iff rfl rfl)
  · rw [← State.discardEntry_drt]; exact State.discardEntry_frame ..
  · rw [State.window_discardEntry]; exact ite_congr rfl (fun h => by rw [h]) (fun _ => rfl)
  · rw [State.port_discardEntry, goneRecords]
    congr 1
    by_cases h : ends
    · simp [if_pos h, if_pos (iff.mpr h), gone]
    · simp [if_neg h, if_neg (mt iff.mp h)]

end Sys2Proof.Machine
end

section
/-! SUPPORT. The entry of a tag, its expiry, and what the completions of a drain and of a fetch do to the tables; with the
statements about them. -/

/- The proofs are checked one after another: each that waits for the kernel holds the stack of a thread. -/
set_option Elab.async false

namespace Sys2Proof.Machine

/-! ## The entry of a tag (R28) -/

section

variable {s : State} {e x y : Entry}

/-- R28: where each tag is in the list once, the tag names the entry. -/
theorem State.eq_of_tag (h : s.tagsDistinct) (hx : x ∈ s.drt) (hy : y ∈ s.drt) (ht : x.tag = y.tag) : x = y := by
  by_contra hne
  have : Std.Symm (fun a b : Entry => a.tag ≠ b.tag) := ⟨fun _ _ => Ne.symm⟩
  exact h.forall hx hy hne ht

/-- The search for a tag with a further property finds the entry of the tag that has it. -/
theorem State.find?_tag (h : s.tagsDistinct) (he : e ∈ s.drt) {P : Entry → Bool} (hP : P e = true) :
    s.drt.find? (fun x => x.tag == e.tag && P x) = some e := by
  cases hf : s.drt.find? (fun x => x.tag == e.tag && P x) with
  | none => simpa [hP] using List.find?_eq_none.mp hf e he
  | some x =>
    have found := List.find?_some hf
    rw [Bool.and_eq_true, beq_iff_eq] at found
    rw [State.eq_of_tag h (List.mem_of_find?_eq_some hf) he found.1]

/-- Where tags are distinct, a new phase for a tag is a new phase for its entry alone. -/
theorem State.setPhase_eq (h : s.tagsDistinct) (he : e ∈ s.drt) (phase : Phase) :
    s.setPhase e.tag phase = { s with drt := s.drt.map (fun x => if x = e then { e with phase := phase } else x) } := by
  unfold State.setPhase
  congr 1
  refine List.map_congr_left fun x hx => ?_
  by_cases ht : x.tag = e.tag
  · rw [if_pos ht, if_pos (State.eq_of_tag h hx he ht), State.eq_of_tag h hx he ht]
  · rw [if_neg ht, if_neg (fun same : x = e => ht (congrArg Entry.tag same))]

end

/-! ## The expiry of an entry (R45) -/

theorem Entry.due_iff {e : Entry} : e.due = true ↔ ∃ result, e.phase = .ready result 0 := by
  cases h : e.phase <;> simp [Entry.due, h]

theorem State.expireTag_of_due {s : State} {e : Entry} (h : s.tagsDistinct) (he : e ∈ s.drt) (due : e.due = true) :
    s.expireTag e.tag = s.expireEntry e := by
  simp only [State.expireTag, State.find?_tag h he due]

theorem State.expireTag_of_none {s : State} {t : Tag} (h : ∀ e ∈ s.drt, e.tag = t → e.due = false) : s.expireTag t = s := by
  have none : s.drt.find? (fun e => e.tag == t && e.due) = none :=
    List.find?_eq_none.mpr fun e he => by
      by_cases ht : e.tag = t
      · simp [h e he ht]
      · simp [ht]
  simp only [State.expireTag, none]

theorem exec_discardExpiry {s : State} (h : s.atRest) (t : Tag) : exec (.discardExpiry t) s = .next (s.expireTag t) :=
  congrArg (fun u : State => Host.Outcome.next (u.expireTag t)) (State.atOnce_of_atRest h)

/-- Settles O9: the entry of the tag is the one that is due, and its expiry is a discard with the order of the two records
left open. -/
theorem discardExpiry : Obligations.DiscardExpiry := by
  constructor
  · intro s e result rest distinct he phase win r gone ends
    have iff : s.lastDrainingRef e.window = true ↔ ends := State.lastDrainingRef_iff
    have due : e.due = true := Entry.due_iff.mpr ⟨result, phase⟩
    refine ⟨s.expireEntry e, if Config.expiryRecordFirst s.choices = true then [r, gone] else [gone, r],
      (exec_discardExpiry rest e.tag).trans (by rw [State.expireTag_of_due distinct he due]),
      (ite_eq_or_eq _ _ _), ?frame, fun w => ?window, fun q => ?port⟩
    case frame =>
      refine (State.discardEntry_frame s.choose e .expired true _).trans ?_
      rw [State.discardEntry_drt]
      rfl
    case window =>
      refine (State.window_discardEntry s.choose e .expired true _ w).trans ?_
      exact ite_congr rfl (fun h => by rw [h]; rfl) (fun _ => rfl)
    case port =>
      refine (State.port_discardEntry s.choose e .expired true _ q).trans ?_
      have same : s.choose.lastDrainingRef e.window = s.lastDrainingRef e.window := rfl
      rw [same, goneRecords]
      by_cases h : ends
      · simp only [if_pos h, if_pos (iff.mpr h)]
        rfl
      · simp only [if_neg h, if_neg (mt iff.mp h), List.nil_append, ite_self]
        rfl
  · intro s tag rest other
    rw [exec_discardExpiry rest, State.expireTag_of_none]
    intro e he ht
    rw [← Bool.not_eq_true, Entry.due_iff]
    exact fun ⟨result, phase⟩ => other e he ht result phase

/-! ## Drain completion (R71 to R76) -/

/-- R71, R72: the head leaves the queue with its reference, and every fence falls; nothing is announced. -/
def State.popHead (s : State) (h : PostedWrite) (rest : List PostedWrite) : State :=
  { s with pwq := rest, drt := s.drt.map Entry.lowered }.unref h.window 1

/-- R74, R75: the port that a fault of a posted write is reported to, and the record. -/
def State.faultReport (s : State) (w : PostedWrite) (cause : FaultCause) : Option (PortId × Record) :=
  if s.online w.source = true then
    some (w.source, .writeFault w.sequence w.addr w.data.length w.window cause)
  else
    s.claim.held.map fun h =>
      (h.holder, .orphanFault w.sequence w.addr w.data.length w.window cause w.source)

/-- A record is offered where one is to be reported. -/
def State.withReport (s : State) (report : Option (PortId × Record)) : State :=
  report.elim s (fun r => s.offer r.1 r.2)

@[simp] theorem State.withReport_drt (s : State) (report : Option (PortId × Record)) :
    (s.withReport report).drt = s.drt := by
  cases report <;> rfl

@[simp] theorem State.window_withReport (s : State) (report : Option (PortId × Record)) (w : WindowId) :
    (s.withReport report).window w = s.window w := by
  cases report <;> rfl

theorem State.reportFault_eq (s : State) (w : PostedWrite) (cause : FaultCause) :
    s.reportFault w cause = s.withReport (s.faultReport w cause) := by
  unfold State.reportFault State.faultReport
  by_cases online : s.online w.source = true
  · rw [if_pos online, if_pos online]; rfl
  · rw [if_neg online, if_neg online]
    cases s.claim.held <;> rfl

/-- A drain completion is the report of the fault, the pop of the head, and the end of its window's draining. -/
theorem State.completeDrain_eq {s : State} {h : PostedWrite} {rest : List PostedWrite} (queued : s.pwq = h :: rest)
    (fault : Option FaultCause) :
    s.completeDrain fault =
      let reported := s.withReport (fault.bind (s.faultReport h))
      if s.lastDrainingRef h.window = true then
        (reported.popHead h rest).broadcast (.windowChanged h.window .disabled)
      else reported.popHead h rest := by
  unfold State.completeDrain
  rw [queued]
  simp only [State.endDraining_releaseRef]
  cases fault with
  | none => rfl
  | some cause =>
    simp only [Option.bind_some, State.reportFault_eq]
    cases s.faultReport h cause <;> rfl

theorem State.completeDrain_of_empty {s : State} (empty : s.pwq = []) (fault : Option FaultCause) :
    s.completeDrain fault = s := by
  simp only [State.completeDrain, empty]

/-! ## Fetch completion (R39, R40, R49) -/

section

variable {s : State} {r : Resource} {e : Entry} (h : s.fetchedEntry r = some e) (result : FetchResult)

include h

theorem State.completeFetch_of_fetching (phase : e.phase = .fetching none) :
    s.completeFetch r result = s.setPhase e.tag (.ready result s.discardTime) := by
  simp only [State.completeFetch, h, phase]

theorem State.completeFetch_of_refetch {n : Nat} (phase : e.phase = .fetching (some n)) :
    s.completeFetch r result = s.setPhase e.tag (.waiting n) := by
  simp only [State.completeFetch, h, phase]

/-- An entry that is no longer FETCHING, ORPHANED above all, is freed by the completion. -/
theorem State.completeFetch_of_not_fetching (phase : ∀ n, e.phase ≠ .fetching n) :
    s.completeFetch r result = s.freeEntry e := by
  cases hp : e.phase with
  | fetching n => exact absurd hp (phase n)
  | waiting n => simp only [State.completeFetch, h, hp]
  | ready result n => simp only [State.completeFetch, h, hp]
  | orphaned => simp only [State.completeFetch, h, hp]

end

/-- Settles O40: the drain completion by its three steps, the fetch completion by the phase of the entry it reaches. -/
theorem completionsReachTheirTables : Obligations.CompletionsReachTheirTables := by
  constructor
  · intro s h rest fault queued win ends t report
    have iff : s.lastDrainingRef h.window = true ↔ ends := State.lastDrainingRef_iff
    have done : t = _ := State.completeDrain_eq queued fault
    have reported : ∀ q, (s.withReport (fault.bind (s.faultReport h))).port q = (s.port q).offerAll (report q) := by
      intro q
      cases fault with
      | none => rfl
      | some cause =>
        simp only [report, Option.bind_some, State.faultReport, State.withReport]
        by_cases online : s.online h.source = true
        · by_cases own : q = h.source <;> simp [online, own]
        · cases s.claim.held with
          | none => simp [online]
          | some holding => by_cases own : q = holding.holder <;> simp [online, own]
    refine ⟨?frame, ?drt, fun w => ?window, fun q => ?port⟩
    case frame =>
      have pops : t.pwq = rest := by
        rw [done]; split <;> rfl
      rw [← pops]; exact State.completeDrain_frame s fault
    case drt =>
      rw [done]
      refine Eq.trans (b := s.drt.map Entry.lowered) ?_ ?_
      · rw [← s.withReport_drt (fault.bind (s.faultReport h))]; split <;> rfl
      · refine List.map_congr_left fun e _ => ?_
        rw [Entry.lowered]; congr 1
    case window =>
      have popped : ∀ u : State, (u.popHead h rest).window w =
          if w = h.window then (u.window h.window).released 1 else u.window w := fun u => State.window_unref _ _ _ _
      rw [done]
      simp only []
      split <;> simp only [State.window_broadcast, popped, State.window_withReport] <;> rfl
    case port =>
      rw [done, Port.offerAll_append, ← reported]
      by_cases h : ends
      · simp only [if_pos h, if_pos (iff.mpr h), State.port_broadcast]; rfl
      · simp only [if_neg h, if_neg (mt iff.mp h)]; rfl
  · intro s r e result distinct he found becomes
    have set := State.setPhase_eq distinct he
    match phase : e.phase with
    | .fetching none => exact (State.completeFetch_of_fetching found result phase).trans (set _)
    | .fetching (some n) => exact (State.completeFetch_of_refetch found result phase).trans (set _)
    | .waiting _ => exact State.completeFetch_of_not_fetching found result (by simp [phase])
    | .ready _ _ => exact State.completeFetch_of_not_fetching found result (by simp [phase])
    | .orphaned => exact State.completeFetch_of_not_fetching found result (by simp [phase])

end Sys2Proof.Machine
end

section
/-! SUPPORT. The entries of a port or of a window taken away together, as a teardown and a purge step do: what is left of the
list, the windows and the event queues; and the statement about a teardown. -/

/- The proofs are checked one after another: each that waits for the kernel holds the stack of a thread. -/
set_option Elab.async false

namespace Sys2Proof.Machine

/-! ## What a teardown and a purge step do to one entry (R21, R50) -/

/-- R21, R50: the states in which an entry is freed when its port or its window goes: no fetch of it is under way. -/
def Phase.idle : Phase → Bool
  | .waiting _ => true
  | .ready _ _ => true
  | _ => false

/-- R48: the state in which an entry becomes ORPHANED instead. -/
def Phase.fetches : Phase → Bool
  | .fetching _ => true
  | _ => false

/-- R48: an entry, ORPHANED. -/
def Entry.orphaned (e : Entry) : Entry :=
  { e with phase := .orphaned }

@[simp] theorem Entry.orphaned_tag (e : Entry) : e.orphaned.tag = e.tag := rfl

/-- R21, R50: the list after one entry has been freed or made ORPHANED. -/
def Entry.dismissFrom (e : Entry) (l : List Entry) : List Entry :=
  if e.phase.idle = true then l.filter (fun x => x.tag != e.tag)
  else if e.phase.fetches = true then l.map (fun x => if x.tag = e.tag then x.orphaned else x)
  else l

/-- R6: a window after one entry has been freed or made ORPHANED. -/
def Entry.dismissedAt (e : Entry) (w : WindowId) (win : Window) : Window :=
  if e.phase.idle = true ∧ w = e.window then { win with refCount := win.refCount - 1 } else win

section

variable (s : State) (e : Entry) (w : WindowId)

theorem State.tearEntry_drt' : (s.tearEntry e).drt = e.dismissFrom s.drt := by
  unfold State.tearEntry Entry.dismissFrom
  cases e.phase <;> rfl

theorem State.purgeEntry_drt' : (s.purgeEntry e).drt = e.dismissFrom s.drt := by
  unfold State.purgeEntry Entry.dismissFrom
  cases e.phase <;> rfl

theorem State.window_dropEntry_idle (h : e.phase.idle = true) :
    (s.dropEntry e).window w = e.dismissedAt w (s.window w) := by
  rw [State.window_dropEntry, Entry.dismissedAt]
  exact if_congr (by simp [h]) rfl rfl

theorem State.window_tearEntry : (s.tearEntry e).window w = e.dismissedAt w (s.window w) := by
  have drops := s.window_dropEntry_idle e w
  unfold State.tearEntry
  cases h : e.phase with
  | waiting n => exact drops (by rw [h]; rfl)
  | ready r n => exact drops (by rw [h]; rfl)
  | fetching r => simp [Entry.dismissedAt, h, Phase.idle, State.orphan]
  | orphaned => simp [Entry.dismissedAt, h, Phase.idle]

theorem State.window_purgeEntry : (s.purgeEntry e).window w = e.dismissedAt w (s.window w) := by
  have drops := fun r => (s.offer e.owner r).window_dropEntry_idle e w
  unfold State.purgeEntry
  cases h : e.phase with
  | waiting n => exact drops _ (by rw [h]; rfl)
  | ready r n => exact drops _ (by rw [h]; rfl)
  | fetching r => simp [Entry.dismissedAt, h, Phase.idle, State.orphan]
  | orphaned => simp [Entry.dismissedAt, h, Phase.idle]

/-- R21: the record with which the purge step frees an entry; a SWAP that is WAITING was not performed. -/
def Entry.purgeRecord : Record :=
  e.discardRecord .purged (match e.phase with
    | .waiting _ => false
    | _ => true)

theorem State.port_purgeEntry (q : PortId) :
    (s.purgeEntry e).port q =
      if (e.phase.idle && q == e.owner) = true then (s.port q).offer e.purgeRecord else s.port q := by
  unfold State.purgeEntry Entry.purgeRecord
  cases h : e.phase with
  | waiting n => by_cases own : q = e.owner <;> simp [Phase.idle, own]
  | ready r n => by_cases own : q = e.owner <;> simp [Phase.idle, own]
  | fetching r => simp [Phase.idle, State.orphan]
  | orphaned => simp [Phase.idle]

end

/-! ## What they do to a list of entries -/

/-- Taking entries away one after the other: the tags of the idle ones leave the list, those of the others are ORPHANED. -/
theorem foldl_dismissFrom (l d : List Entry) :
    l.foldl (fun d e => e.dismissFrom d) d =
      (d.filter (fun x => !l.any (fun e => e.phase.idle && e.tag == x.tag))).map (fun x =>
        if l.any (fun e => e.phase.fetches && e.tag == x.tag) = true then x.orphaned else x) := by
  induction l generalizing d with
  | nil => simp
  | cons e l ih =>
    rw [List.foldl_cons, ih]
    cases h : e.phase with
    | waiting n =>
      simp [Entry.dismissFrom, h, Phase.idle, Phase.fetches, List.filter_filter, Bool.and_comm, bne, BEq.comm]
    | ready r n =>
      simp [Entry.dismissFrom, h, Phase.idle, Phase.fetches, List.filter_filter, Bool.and_comm, bne, BEq.comm]
    | fetching r =>
      have tag : ∀ x : Entry, (if x.tag = e.tag then x.orphaned else x).tag = x.tag := fun x => by split <;> rfl
      simp only [Entry.dismissFrom, h, Phase.idle, Phase.fetches, Bool.false_eq_true, if_false, if_true, List.filter_map,
        List.map_map, List.any_cons, Bool.false_and, Bool.false_or, Bool.true_and, Function.comp_def, tag]
      refine List.map_congr_left fun x _ => ?_
      by_cases same : x.tag = e.tag
      · simp [same, Entry.orphaned]
      · simp [same, Ne.symm same]
    | orphaned => simp [Entry.dismissFrom, h, Phase.idle, Phase.fetches]

/-- Where tags are distinct, the entries of a list that have a property are taken away from that list, and no others. -/
theorem foldl_dismissFrom_filter {d : List Entry} (distinct : d.Pairwise (fun a b => a.tag ≠ b.tag)) (P : Entry → Bool) :
    (d.filter P).foldl (fun d e => e.dismissFrom d) d =
      (d.filter (fun x => !(P x && x.phase.idle))).map (fun x => if P x = true then x.orphaned else x) := by
  have unique : ∀ x ∈ d, ∀ Q : Phase → Bool,
      (d.filter P).any (fun e => Q e.phase && e.tag == x.tag) = (P x && Q x.phase) := by
    intro x hx Q
    have same : ∀ e ∈ d, e.tag = x.tag → e = x := fun e he ht =>
      State.eq_of_tag (s := { State.reset with drt := d }) distinct he hx ht
    rw [Bool.eq_iff_iff]
    simp only [List.any_eq_true, List.mem_filter, Bool.and_eq_true, beq_iff_eq]
    refine ⟨fun ⟨e, ⟨he, hP⟩, hQ, ht⟩ => same e he ht ▸ ⟨hP, hQ⟩, fun ⟨hP, hQ⟩ => ⟨x, ⟨hx, hP⟩, hQ, rfl⟩⟩
  have left : d.filter (fun x => !(d.filter P).any (fun e => e.phase.idle && e.tag == x.tag)) =
      d.filter (fun x => !(P x && x.phase.idle)) :=
    List.filter_congr fun x hx => by rw [unique x hx Phase.idle]
  rw [foldl_dismissFrom, left]
  refine List.map_congr_left fun x hx => ?_
  obtain ⟨hx, stays⟩ := List.mem_filter.mp hx
  rw [unique x hx Phase.fetches]
  cases hP : P x with
  | false => simp
  | true =>
    cases h : x.phase with
    | waiting n => simp [hP, h, Phase.idle] at stays
    | ready r n => simp [hP, h, Phase.idle] at stays
    | fetching r => simp [Phase.fetches]
    | orphaned => simp [Phase.fetches, Entry.orphaned, ← h]

/-- The references that the idle ones among a list of entries release at a window. -/
theorem foldl_window_dismissed {f : State → Entry → State} {w : WindowId}
    (hf : ∀ s e, (f s e).window w = e.dismissedAt w (s.window w)) (l : List Entry) (s : State) :
    (l.foldl f s).window w =
      { s.window w with refCount := (s.window w).refCount - l.countP (fun e => e.phase.idle && w == e.window) } := by
  induction l generalizing s with
  | nil => rfl
  | cons e l ih =>
    rw [List.foldl_cons, ih, hf, Entry.dismissedAt, List.countP_cons]
    by_cases h : e.phase.idle = true ∧ w = e.window
    · simp [h, Nat.sub_sub, Nat.add_comm]
    · rw [if_neg h, if_neg (by simpa using h), Nat.add_zero]

/-- What a fold that offers one record for each element with a property makes of a port. -/
theorem foldl_port_offers {α : Type} {f : State → α → State} {q : PortId} {P : α → Bool} {record : α → Record}
    (hf : ∀ s a, (f s a).port q = if P a = true then (s.port q).offer (record a) else s.port q) (l : List α) (s : State) :
    (l.foldl f s).port q = (s.port q).offerAll ((l.filter P).map record) := by
  induction l generalizing s with
  | nil => rfl
  | cons a l ih =>
    rw [List.foldl_cons, ih, hf, List.filter_cons]
    split <;> simp

theorem foldl_drt {f : State → Entry → State} (hf : ∀ s e, (f s e).drt = e.dismissFrom s.drt) (l : List Entry) (s : State) :
    (l.foldl f s).drt = l.foldl (fun d e => e.dismissFrom d) s.drt := by
  induction l generalizing s with
  | nil => rfl
  | cons e l ih => rw [List.foldl_cons, ih, hf, List.foldl_cons]

/-! ## The end of draining, window by window (R19) -/

theorem Window.drained_iff {win : Window} : win.drained = true ↔ win.state = .draining ∧ win.refCount = 0 := by
  simp [Window.drained]

theorem Window.released_zero (win : Window) :
    win.released 0 = if win.drained = true then { win with state := .disabled } else win := by
  unfold Window.released
  rw [if_congr (Window.drained_iff (win := win)) rfl rfl]
  by_cases h : win.state = .draining ∧ win.refCount = 0
  · simp [h]
  · rw [if_neg (by simpa using h), if_neg h]; rfl

/-- References that leave one after the other, the end of the draining at last, leave together. -/
theorem Window.released_sub (win : Window) (n : Nat) :
    Window.released { win with refCount := win.refCount - n } 0 = win.released n := by
  simp [Window.released, Nat.sub_eq_zero_iff_le]

theorem Window.released_zero_zero (win : Window) : (win.released 0).released 0 = win.released 0 := by
  rw [Window.released_zero win]
  split
  · simp [Window.released]
  · rename_i h; rw [Window.released_zero, if_neg h]

theorem State.window_endDraining' (s : State) (w v : WindowId) :
    (s.endDraining w).window v = if v = w then (s.window v).released 0 else s.window v := by
  rw [State.window_endDraining]
  by_cases h : v = w
  · subst h; simp [Window.released_zero]
  · simp [h]

theorem foldl_endDraining_window (ws : List WindowId) (s : State) (v : WindowId) :
    (ws.foldl State.endDraining s).window v = if v ∈ ws then (s.window v).released 0 else s.window v := by
  induction ws generalizing s with
  | nil => simp
  | cons w ws ih =>
    rw [List.foldl_cons, ih, State.window_endDraining']
    by_cases hw : v = w
    · simp [hw, Window.released_zero_zero]
    · simp [hw]

theorem foldl_endDraining_port {ws : List WindowId} (nodup : ws.Nodup) (s : State) (q : PortId) :
    (ws.foldl State.endDraining s).port q =
      (s.port q).offerAll ((ws.filter (fun w => (s.window w).drained)).map (fun w => .windowChanged w .disabled)) := by
  induction ws generalizing s with
  | nil => rfl
  | cons w ws ih =>
    obtain ⟨fresh, nodup⟩ := List.nodup_cons.mp nodup
    have others : ws.filter (fun v => ((s.endDraining w).window v).drained) = ws.filter (fun v => (s.window v).drained) :=
      List.filter_congr fun v hv => by rw [State.window_endDraining', if_neg (fun same : v = w => fresh (same ▸ hv))]
    rw [List.foldl_cons, ih nodup, others, State.port_endDraining, List.filter_cons]
    split <;> simp

theorem nodup_windowIds : windowIds.Nodup := by decide

/-! ## Teardown (R139, R140) -/

section

variable {s : State} {p : PortId}

theorem State.tearEntries_drt' (distinct : s.tagsDistinct) :
    (s.tearEntries p).drt = (s.drt.filter (fun e => !(e.owner == p && e.phase.idle))).map (fun e =>
      if e.owner = p then e.orphaned else e) := by
  rw [State.tearEntries, foldl_drt State.tearEntry_drt', foldl_dismissFrom_filter distinct]
  exact List.map_congr_left fun e _ => if_congr beq_iff_eq rfl rfl

/-- How many idle entries of a port a window loses at its teardown. -/
def State.tornAt (s : State) (p : PortId) (w : WindowId) : Nat :=
  s.drt.countP (fun e => (e.owner == p && e.phase.idle) && e.window == w)

theorem State.window_tearEntries (w : WindowId) :
    (s.tearEntries p).window w = { s.window w with refCount := (s.window w).refCount - s.tornAt p w } := by
  have counted : (s.drt.filter (fun e => e.owner == p)).countP (fun e => e.phase.idle && w == e.window) = s.tornAt p w := by
    rw [List.countP_filter, State.tornAt]
    exact List.countP_congr fun e _ => by simp [and_comm, and_left_comm, @eq_comm _ w]
  rw [State.tearEntries, foldl_window_dismissed (fun s e => State.window_tearEntry s e w), counted]

/-- R139: the teardown of a port up to the end of the draining of windows. -/
def State.tornTables (s : State) (p : PortId) (cause : LeaveCause) : State :=
  windowIds.foldl State.endDraining ((s.broadcastExcept p (.portLeft p cause)).tearEntries p)

theorem State.tornTables_claim (cause : LeaveCause) : (s.tornTables p cause).claim = s.claim := by
  rw [State.tornTables, foldl_field State.endDraining State.claim (fun s w => s.endDraining_claim w),
    State.tearEntries_claim, State.broadcastExcept_claim]

/-- R139: a teardown is its part at the tables, then the claim, then the port itself. -/
theorem State.teardown_eq (cause : LeaveCause) :
    s.teardown p cause =
      (if s.holds p = true then (s.tornTables p cause).freeClaim p else s.tornTables p cause).modifyPort p Port.torn := by
  have holds : (s.tornTables p cause).holds p = s.holds p := by rw [State.holds, State.holds, State.tornTables_claim]
  rw [← holds]; rfl

section

variable (s) (p) (cause : LeaveCause)

theorem State.tornTables_drt : (s.tornTables p cause).drt = (s.tearEntries p).drt := by
  rw [State.tornTables, foldl_field State.endDraining State.drt (fun s w => s.endDraining_drt w), State.tearEntries,
    State.tearEntries, foldl_drt State.tearEntry_drt', foldl_drt State.tearEntry_drt']
  rfl

theorem State.window_tornTables (w : WindowId) :
    (s.tornTables p cause).window w = (s.window w).released (s.tornAt p w) := by
  rw [State.tornTables, foldl_endDraining_window, if_pos (mem_windowIds w), State.window_tearEntries,
    Window.released_sub]
  rfl

/-- R140: the windows whose draining the teardown of a port ends. -/
def State.tornWindows (s : State) (p : PortId) : List WindowId :=
  windowIds.filter (fun w => (s.window w).state == .draining && (s.window w).refCount ≤ s.tornAt p w)

theorem State.port_tornTables (q : PortId) :
    (s.tornTables p cause).port q =
      (if q = p then s.port q else (s.port q).offer (.portLeft p cause)).offerAll
        ((s.tornWindows p).map (fun w => .windowChanged w .disabled)) := by
  rw [State.tornTables, foldl_endDraining_port nodup_windowIds, State.tornWindows]
  congr 2
  · rw [State.port, State.tearEntries_ports]
    exact State.port_broadcastExcept ..
  · refine List.filter_congr fun w _ => ?_
    rw [State.window_tearEntries, Bool.eq_iff_iff, Window.drained_iff, Bool.and_eq_true, beq_iff_eq, decide_eq_true_iff,
      Nat.sub_eq_zero_iff_le]
    rfl

/-- The claim makes no difference to the tables, and the teardown of the port itself none to the other ports. -/
theorem State.teardown_tables :
    (s.teardown p cause).drt = (s.tornTables p cause).drt ∧
      (∀ w, (s.teardown p cause).window w = (s.tornTables p cause).window w) ∧
      (s.teardown p cause).claim = (if s.holds p = true then { s.claim with held := none } else s.claim) ∧
      ∀ q, (s.teardown p cause).port q =
        if q = p then ((s.tornTables p cause).port p).torn
        else ((s.tornTables p cause).port q).offerAll (if s.holds p = true then [.claimFreed p] else []) := by
  rw [State.teardown_eq, State.modifyPort_drt, State.modifyPort_claim, ← State.tornTables_claim (s := s) (p := p) cause]
  generalize s.tornTables p cause = u
  by_cases held : s.holds p = true
  · simp only [if_pos held]
    refine ⟨rfl, fun w => rfl, rfl, fun q => ?_⟩
    rw [State.port_modifyPort, State.freeClaim, State.port_broadcastExcept, State.port_broadcastExcept, if_pos rfl]
    split <;> rfl
  · simp only [if_neg held]
    exact ⟨trivial, fun w => rfl, trivial, fun q => by rw [State.port_modifyPort]; rfl⟩

end

end

/-- Settles O14: the entries by the fold over the port's own, the windows by their references, the records of every other
port in the order in which the three parts of the teardown offer them. -/
theorem teardown : Obligations.Teardown := by
  intro s p cause distinct absent t freed count changed
  have same : ∀ e : Entry, freed e = (e.owner == p && e.phase.idle) := fun e => by
    cases h : e.phase <;> simp [freed, h, Phase.idle]
  have counted : count = s.tornAt p := funext fun w => by
    simp only [count, same]; rfl
  obtain ⟨drt, window, claim, port⟩ := s.teardown_tables p cause
  refine ⟨State.teardown_frame s p cause, ?drt, fun w => ?window, claim, ?own, fun q hq => ?others⟩
  case drt =>
    simp only [same]
    exact drt.trans ((s.tornTables_drt p cause).trans (State.tearEntries_drt' distinct))
  case window =>
    rw [counted]
    exact (window w).trans (s.window_tornTables p cause w)
  case own =>
    rw [port, if_pos rfl, State.port_tornTables, if_pos rfl, Port.offerAll_of_not_online absent]
    rfl
  case others =>
    have named : changed = s.tornWindows p := by simp only [changed, counted]; rfl
    rw [port, if_neg hq, State.port_tornTables, if_neg hq, named, Port.offerAll_append, Port.offerAll_cons]

end Sys2Proof.Machine
end

section
/-! SUPPORT. Takings from a state in which grants are due, the checks before a register's own rule, and what the rules of
PURGE, JOIN, LEAVE and EVICT come to; with the statements about them. -/

/- The proofs are checked one after another: each that waits for the kernel holds the stack of a thread. -/
set_option Elab.async false

namespace Sys2Proof.Machine

/-! ## A taking while grants are due (R53, R132) -/

section

variable {s : State} {p : PortId} {row : TakeRow} {f : Frame}

theorem State.allSent_of_settle (h : s.settle.allSent) : s.allSent := fun p => by
  have := h p
  rwa [State.port_settle] at this

/-- The frame a port takes is decided after the grants that come before it. -/
theorem State.take_of_settle_takes (h : s.settle.takes p row f) (decide : State → Frame → State)
    (lost : State → Frame → Grantee → Bool := fun _ _ _ => false) :
    s.take p row decide lost = decide (s.grantsBefore (lost s f)) f := by
  obtain ⟨taken, isRow, sent, -⟩ := h
  rw [State.frameToTake_settle] at taken
  simp [State.take, State.sendAll_of_allSent (State.allSent_of_settle sent), taken, isRow]

end

/-! ## The checks before a register's own rule (R133, R152, R179) -/

section

variable {s : State} {p : PortId} {r : Reg} {value : List Byte}

theorem State.writeRefusal_eq_none_iff :
    s.writeRefusal p r value = none ↔ (s.online p = true ∨ r = .pjoin) ∧ (r.claimRequired = true → s.holds p = true) ∧
      r.writable = true ∧ value.length = r.width := by
  cases online : s.online p <;> simp [State.writeRefusal, ite_eq_iff, online]

theorem State.controlWrite_of_accepted (h : s.writeRefusal p r value = none) (rule : Verdict) :
    s.controlWrite p r value rule = s.conclude p rule := by
  simp only [State.controlWrite, h]

theorem State.controlWrite_of_refused {reason : RefusedReason} (h : s.writeRefusal p r value = some reason)
    (rule : Verdict) : s.controlWrite p r value rule = s.refuse p reason := by
  simp only [State.controlWrite, h, State.conclude]

@[simp] theorem State.holds_grantsBefore (lost : Grantee → Bool) (first : Nat → Bool) :
    (s.grantsBefore lost first).holds p = s.holds p := by simp [State.holds]

@[simp] theorem State.online_grantsBefore (lost : Grantee → Bool) (first : Nat → Bool) :
    (s.grantsBefore lost first).online p = s.online p := by simp [State.online]

@[simp] theorem State.writeRefusal_grantsBefore (lost : Grantee → Bool) (first : Nat → Bool) :
    (s.grantsBefore lost first).writeRefusal p r value = s.writeRefusal p r value := by
  simp [State.writeRefusal]

/-- A write of the holder passes the checks of its register, and the register's own rule decides it after the grants. -/
theorem State.take_heldWrite_of_settle {row : TakeRow} (h : s.settle.takesHeldWrite p row value) (width : r.width = 8)
    (writable : r.writable = true) (rule : State → List Byte → Verdict) (lost : State → List Byte → Grantee → Bool) :
    s.take p row (fun s f => s.controlWrite p r (f.payload .ctlWrite) (rule s (f.payload .ctlWrite)))
        (fun s f g => (s.writeRefusal p r (f.payload .ctlWrite)).isNone && lost s (f.payload .ctlWrite) g) =
      (s.grantsBefore (lost s value)).conclude p (rule (s.grantsBefore (lost s value)) value) := by
  obtain ⟨⟨f, taken, online, isValue, length⟩, holds⟩ := h
  rw [State.online_settle] at online
  rw [State.holds_settle] at holds
  have accepted : s.writeRefusal p r value = none :=
    State.writeRefusal_eq_none_iff.mpr ⟨.inl online, fun _ => holds, writable, width ▸ length⟩
  refine (State.take_of_settle_takes taken _ _).trans ?_
  simp only [isValue, accepted, Option.isNone_none, Bool.true_and]
  exact State.controlWrite_of_accepted ((State.writeRefusal_grantsBefore ..).trans accepted) _

end

/-! ## Grants leave the tags of the list as they are (R37) -/

section

variable (s : State)

theorem State.tagsDistinct_iff : s.tagsDistinct ↔ (s.drt.map Entry.tag).Nodup :=
  (List.pairwise_map).symm

theorem State.tags_setPhase (t : Tag) (phase : Phase) : (s.setPhase t phase).drt.map Entry.tag = s.drt.map Entry.tag := by
  rw [State.setPhase, List.map_map]
  refine List.map_congr_left fun e _ => ?_
  simp only [Function.comp_apply]
  split <;> rfl

theorem State.tags_startFetch (r : Resource) : (s.startFetch r).drt.map Entry.tag = s.drt.map Entry.tag := by
  unfold State.startFetch
  split
  · exact State.tags_setPhase ..
  · rfl

theorem State.tags_grantStore : s.grantStore.drt.map Entry.tag = s.drt.map Entry.tag := by
  obtain h | ⟨pos, -, -, -, -, h⟩ := s.grantStore_cases
  · rw [h]
  · rw [h]
    cases pos with
    | port p => rfl
    | drain => rw [State.grantPosition, State.startDrain_drt]
    | fetch => exact State.tags_startFetch _ _

theorem State.tags_grantBus : s.grantBus.drt.map Entry.tag = s.drt.map Entry.tag := by
  obtain h | ⟨stream, -, -, h⟩ := s.grantBus_cases
  · rw [h]
  · rw [h]
    cases stream with
    | drain =>
      unfold State.grantStream
      simp only []
      split
      · rw [State.startTransaction_drt, State.startDrain_drt]
      · rfl
    | fetch =>
      unfold State.grantStream
      simp only []
      split
      · rw [State.startTransaction_drt]; exact State.tags_startFetch _ _
      · rfl

/-- What comes before an event is some of the grants that are due, and a count of choices. -/
theorem State.grantBefore_cases (lost : Bool) (first : Nat → Bool) (grant : State → State) :
    s.grantBefore lost first grant = grant s ∨ s.grantBefore lost first grant = grant s.choose ∨
      s.grantBefore lost first grant = s.choose := by
  unfold State.grantBefore
  split
  · split
    · exact .inr (.inl rfl)
    · exact .inr (.inr rfl)
  · exact .inl rfl

theorem State.tags_grantsBefore (lost : Grantee → Bool) (first : Nat → Bool) :
    (s.grantsBefore lost first).drt.map Entry.tag = s.drt.map Entry.tag := by
  have before : ∀ (s : State) (l : Bool) (grant : State → State),
      (∀ s : State, (grant s).drt.map Entry.tag = s.drt.map Entry.tag) →
      (s.grantBefore l first grant).drt.map Entry.tag = s.drt.map Entry.tag := by
    intro s l grant keeps
    obtain h | h | h := s.grantBefore_cases l first grant
    · rw [h, keeps]
    · rw [h, keeps]; rfl
    · rw [h]; rfl
  rw [State.grantsBefore, before _ _ _ State.tags_grantBus, before _ _ _ State.tags_grantStore]

theorem State.tagsDistinct_grantsBefore {s : State} (h : s.tagsDistinct) (lost : Grantee → Bool) (first : Nat → Bool) :
    (s.grantsBefore lost first).tagsDistinct := by
  rw [State.tagsDistinct_iff] at h ⊢
  rwa [State.tags_grantsBefore]

end

/-! ## PURGE (R20, R21) -/

section

variable {s : State} {w : WindowId}

theorem State.purgeStep_drt' (distinct : s.tagsDistinct) :
    (s.purgeStep w).drt = (s.drt.filter (fun e => !(e.window == w && e.phase.idle))).map (fun e =>
      if e.window = w then e.orphaned else e) := by
  rw [State.purgeStep, State.endDraining_drt, foldl_drt State.purgeEntry_drt', foldl_dismissFrom_filter distinct]
  exact List.map_congr_left fun e _ => if_congr beq_iff_eq rfl rfl

/-- R21: the entries that a purge step frees. -/
def State.purged (s : State) (w : WindowId) : List Entry :=
  s.drt.filter (fun e => e.window == w && e.phase.idle)

/-- The window after the entries have gone, before its draining ends. -/
theorem State.window_purgeEntries (v : WindowId) :
    ((s.drt.filter (fun e => e.window == w)).foldl State.purgeEntry s).window v =
      if v = w then { s.window w with refCount := (s.window w).refCount - (s.purged w).length } else s.window v := by
  rw [foldl_window_dismissed (fun s e => State.window_purgeEntry s e v), List.countP_filter]
  by_cases hv : v = w
  · subst hv
    have counted : s.drt.countP (fun e => (e.phase.idle && v == e.window) && e.window == v) = (s.purged v).length := by
      rw [State.purged, ← List.countP_eq_length_filter]
      exact List.countP_congr fun e _ => by simp [@eq_comm _ v, and_comm]
    rw [if_pos rfl, counted]
  · have counted : s.drt.countP (fun e => (e.phase.idle && v == e.window) && e.window == w) = 0 := by
      rw [List.countP_eq_zero]
      intro e _ h
      simp only [Bool.and_eq_true, beq_iff_eq] at h
      exact hv (h.1.2.trans h.2)
    rw [if_neg hv, counted]
    rfl

theorem State.window_purgeStep (v : WindowId) :
    (s.purgeStep w).window v = if v = w then (s.window w).released (s.purged w).length else s.window v := by
  rw [State.purgeStep, State.window_endDraining', State.window_purgeEntries]
  by_cases hv : v = w
  · rw [if_pos hv, if_pos hv, if_pos hv, Window.released_sub]
  · rw [if_neg hv, if_neg hv, if_neg hv]

theorem State.port_purgeStep (q : PortId) :
    (s.purgeStep w).port q = (s.port q).offerAll
      (((s.purged w).filter (fun e => e.owner == q)).map Entry.purgeRecord ++
        goneRecords ((s.window w).state = .draining ∧ (s.window w).refCount ≤ (s.purged w).length) w) := by
  have freed : (s.drt.filter (fun e => e.window == w)).filter (fun e => e.phase.idle && q == e.owner) =
      (s.purged w).filter (fun e => e.owner == q) := by
    rw [State.purged, List.filter_filter, List.filter_filter]
    exact List.filter_congr fun e _ => by
      rw [Bool.eq_iff_iff]; simp [@eq_comm _ q, and_comm, and_left_comm]
  have drained : ((s.drt.filter (fun e => e.window == w)).foldl State.purgeEntry s |>.window w).drained = true ↔
      (s.window w).state = .draining ∧ (s.window w).refCount ≤ (s.purged w).length := by
    rw [State.window_purgeEntries, if_pos rfl, Window.drained_iff, Nat.sub_eq_zero_iff_le]
  rw [State.purgeStep, State.port_endDraining, foldl_port_offers (fun s e => State.port_purgeEntry s e q), freed,
    goneRecords, if_congr drained rfl rfl, Port.offerAll_append]
  split <;> rfl

theorem State.purgeRule_of_disabled (h : (s.window w).state = .disabled) : s.purgeRule w = .refused .wrongState := by
  simp only [State.purgeRule, h]

theorem State.purgeRule_of_unreferenced (h : (s.window w).state = .enabled) (none : (s.window w).refCount = 0) :
    s.purgeRule w = .done (s.setWindowState w .disabled) := by
  simp only [State.purgeRule, h, if_pos none, State.disableWindow, Window.disabledState]

theorem State.purgeRule_of_referenced (h : (s.window w).state = .enabled) (some : (s.window w).refCount ≠ 0) :
    s.purgeRule w = .done ((s.setWindowState w .draining).purgeStep w) := by
  simp only [State.purgeRule, h, if_neg some, State.disableWindow, Window.disabledState]

theorem State.purgeRule_of_draining (h : (s.window w).state = .draining) :
    s.purgeRule w = .done (s.purgeStep w) := by
  simp only [State.purgeRule, h]

end

/-- A PURGE is decided after the grants that take nothing away from it, on the window it names. -/
theorem exec_purge_of_settle {s : State} {p : PortId} {value : List Byte} {w : WindowId}
    (h : s.settle.takesHeldWrite p .purge value) (hw : bytesAt value 0 1 = w.val) :
    exec (.purge p) s =
      .next ((s.grantsBefore (Grantee.ofWindow w)).conclude p ((s.grantsBefore (Grantee.ofWindow w)).purgeRule w)) := by
  have lost : (fun g : Grantee => (windowIndex value).any (fun w => g.ofWindow w)) = Grantee.ofWindow w :=
    funext fun g => by rw [windowIndex_eq hw, Option.any_some]
  refine congrArg Host.Outcome.next ((State.take_heldWrite_of_settle (r := .wcommit) h rfl rfl
    (fun s value => commitRule value s.purgeRule)
    (fun _ value g => (windowIndex value).any (fun w => g.ofWindow w))).trans ?_)
  rw [lost, commitRule_of_index hw]

/-- Settles O30: the rule of PURGE by the state of the window and its references; what the purge step leaves of the list,
the window and the queues. -/
theorem purge : Obligations.Purge := by
  intro before p value w distinct taken named s win held freed record draining
  have done := exec_purge_of_settle taken named
  have distinct : s.tagsDistinct := State.tagsDistinct_grantsBefore distinct _ _
  have same : held = fun e => e.window == w && e.phase.idle := funext fun e => by
    cases h : e.phase <;> simp [held, h, Phase.idle]
  have freed' : freed = s.purged w := by simp only [freed, same]; rfl
  have recorded : ∀ q, (freed.filter (fun e => e.owner == q)).map record =
      ((s.purged w).filter (fun e => e.owner == q)).map Entry.purgeRecord := by
    intro q
    rw [freed']
    refine List.map_congr_left fun e _ => ?_
    cases hk : e.kind <;> cases hp : e.phase <;>
      simp [record, Entry.purgeRecord, Entry.discardRecord, hk, hp]
  refine ⟨fun disabled => ?_, fun enabled unreferenced => ?_, fun present referenced => ?_⟩
  · rw [done, State.purgeRule_of_disabled disabled, State.conclude_refused]
  · rw [done, State.purgeRule_of_unreferenced enabled unreferenced, State.conclude_done]; rfl
  · cases state : win.state with
    | disabled => exact absurd state present
    | enabled =>
      have window : (s.setWindowState w .draining).window w = draining := by
        rw [State.window_setWindowState, if_pos rfl]
      refine ⟨(s.setWindowState w .draining).purgeStep w, ?_, ?frame, ?drt, fun v => ?window, fun q => ?port⟩
      · rw [done, State.purgeRule_of_referenced state (referenced state), State.conclude_done]
      case frame => exact (State.purgeStep_frame ..).trans rfl
      case drt => rw [same]; exact State.purgeStep_drt' distinct
      case window =>
        rw [State.window_purgeStep, window, freed', State.window_setWindowState]
        by_cases hv : v = w
        · rw [if_pos hv, if_pos hv]; rfl
        · rw [if_neg hv, if_neg hv, if_neg hv]
      case port =>
        beta_reduce
        rw [State.port_purgeStep, window, State.port_setWindowState, recorded, freed', goneRecords, if_pos rfl,
          if_congr (and_iff_right rfl) rfl rfl]
        rfl
    | draining =>
      have window : s.window w = draining := by simp only [draining, ← state]; rfl
      refine ⟨s.purgeStep w, ?_, ?frame, ?drt, fun v => ?window, fun q => ?port⟩
      · rw [done, State.purgeRule_of_draining state, State.conclude_done]
      case frame => exact State.purgeStep_frame ..
      case drt => rw [same]; exact State.purgeStep_drt' distinct
      case window => rw [State.window_purgeStep, freed', window]
      case port =>
        beta_reduce
        have step : ¬WindowState.draining = .enabled := by decide
        rw [State.port_purgeStep, recorded, freed', goneRecords, if_neg step,
          if_congr (and_iff_right (a := (s.window w).state = .draining) state) rfl rfl]
        rfl

/-! ## JOIN, LEAVE and EVICT (R135 to R137, R154) -/

section

variable {s : State} {p : PortId} {f : Frame}

/-- A write to PJOIN of the register's width passes its checks in every port state. -/
theorem State.writeRefusal_pjoin {value : List Byte} (length : value.length = 8) : s.writeRefusal p .pjoin value = none :=
  State.writeRefusal_eq_none_iff.mpr ⟨.inr rfl, (absurd · (by decide)), rfl, length⟩

theorem exec_join (h : s.takes p .join f) (length : (f.payload .ctlWrite).length = 8) :
    exec (.join p) s = .next (s.conclude p (s.joinRule p)) :=
  congrArg Host.Outcome.next ((State.take_of_takes h _).trans
    (State.controlWrite_of_accepted (State.writeRefusal_pjoin length) _))

/-- R53: what a LEAVE takes away from a grant. -/
def State.lostAtLeave (s : State) (p : PortId) (g : Grantee) : Bool :=
  s.online p && g.ownedBy p

/-- R53: what an EVICT takes away from a grant. -/
def State.lostAtEvict (s : State) (p : PortId) (value : List Byte) (g : Grantee) : Bool :=
  (targetPort value).any (fun t => t != p && s.online t && g.ownedBy t)

/-- A LEAVE is decided after the grants, but for those to entries of the port where it leaves. -/
theorem exec_leave_of_settle (h : s.settle.takes p .leave f) (length : (f.payload .ctlWrite).length = 8) :
    exec (.leave p) s =
      .next ((s.grantsBefore (s.lostAtLeave p)).conclude p ((s.grantsBefore (s.lostAtLeave p)).leaveRule p)) := by
  refine congrArg Host.Outcome.next ((State.take_of_settle_takes h _ _).trans ?_)
  simp only [State.writeRefusal_pjoin length, Option.isNone_none, Bool.true_and]
  exact State.controlWrite_of_accepted (State.writeRefusal_pjoin length) _

/-- An EVICT of the holder is decided after the grants, but for those to entries of the port that it evicts. -/
theorem exec_evict_of_settle {value : List Byte} (h : s.settle.takesHeldWrite p .evict value) :
    exec (.evict p) s =
      .next ((s.grantsBefore (s.lostAtEvict p value)).conclude p
        ((s.grantsBefore (s.lostAtEvict p value)).evictRule p value)) :=
  congrArg Host.Outcome.next (State.take_heldWrite_of_settle (r := .evict) h rfl rfl
    (fun s value => s.evictRule p value) (fun s value => s.lostAtEvict p value))

theorem State.lostAtLeave_of_absent (absent : s.online p = false) : s.lostAtLeave p = fun _ => false :=
  funext fun g => by rw [State.lostAtLeave, absent, Bool.false_and]

theorem State.lostAtLeave_of_online (online : s.online p = true) : s.lostAtLeave p = Grantee.ownedBy p :=
  funext fun g => by rw [State.lostAtLeave, online, Bool.true_and]

theorem State.lostAtEvict_of_above {value : List Byte} (above : 3 < bytesAt value 0 1) :
    s.lostAtEvict p value = fun _ => false :=
  funext fun g => by rw [State.lostAtEvict, targetPort_none above, Option.any_none]

/-- An EVICT takes away the entries of its target, where the target is another port that is ONLINE. -/
theorem State.lostAtEvict_of_target {value : List Byte} {t : PortId} (target : bytesAt value 0 1 = t.val) :
    s.lostAtEvict p value = if t ≠ p ∧ s.online t = true then Grantee.ownedBy t else fun _ => false :=
  funext fun g => by
    rw [State.lostAtEvict, targetPort_eq target, Option.any_some]
    split <;> rename_i h
    · simp [h]
    · cases hg : g.ownedBy t
      · simp
      · simpa [hg] using h

end

/-- Settles O24: both rules split on whether the port is ONLINE, which grants leave as it is. -/
theorem joinAndLeave : Obligations.JoinAndLeave := by
  intro s p f length
  refine ⟨fun taken => ?join, fun taken => ?leave⟩
  case join =>
    rw [exec_join taken length, State.joinRule]
    exact ⟨fun online => by rw [if_pos online, State.conclude_refused],
      fun absent => by rw [if_neg (by rw [absent]; decide), State.conclude_done]; rfl⟩
  case leave =>
    rw [exec_leave_of_settle taken length, State.leaveRule, State.online_grantsBefore]
    refine ⟨fun absent => ?_, fun online => ?_⟩
    · rw [if_neg (by rw [absent]; decide), State.conclude_refused, State.lostAtLeave_of_absent absent,
        State.grantsBefore_none]
    · rw [if_pos online, State.conclude_done, State.lostAtLeave_of_online online, State.leaveOnline]

section

variable {s : State} {p : PortId} {value : List Byte}

theorem State.evictRule_of_above (h : 3 < bytesAt value 0 1) : s.evictRule p value = .refused .badValue := by
  simp only [State.evictRule, targetPort_none h]

theorem State.evictRule_of_target {t : PortId} (h : bytesAt value 0 1 = t.val) :
    s.evictRule p value =
      if t = p then .refused .badValue else if s.online t = false then .refused .portAbsent
      else .done (s.leaveOnline t .evicted) := by
  simp [State.evictRule, targetPort_eq h]

end

/-- Settles O25: the rule of EVICT by its target; where nobody is evicted, every grant comes before. -/
theorem evict : Obligations.Evict := by
  intro s p value taken
  rw [exec_evict_of_settle taken]
  refine ⟨fun above => ?_, fun t target => ?_⟩
  · rw [State.evictRule_of_above above, State.conclude_refused, State.lostAtEvict_of_above above, State.grantsBefore_none]
  · rw [State.evictRule_of_target target, State.lostAtEvict_of_target target, State.online_grantsBefore]
    by_cases own : t = p
    · rw [if_pos own, if_pos own, State.conclude_refused, if_neg (by simp [own]), State.grantsBefore_none]
    · rw [if_neg own, if_neg own]
      by_cases absent : s.online t = false
      · rw [if_pos absent, if_pos absent, State.conclude_refused, if_neg (by simp [absent]), State.grantsBefore_none]
      · rw [if_neg absent, if_neg absent, State.conclude_done, if_pos ⟨own, by simpa using absent⟩, State.leaveOnline]

end Sys2Proof.Machine
end

section
/-! SUPPORT. All that a command can do: every command is a run of moves, each of which changes one port, one table or one
agent under the guard that the command's meaning has checked. A law of the device that every move keeps is kept by every
step, so that the laws need no command by command proof. The moves are cut so that every law holds between them: the
announcements of a release, a purge step or a teardown come after the tables have changed. -/

/- The proofs are checked one after another: each that waits for the kernel holds the stack of a thread. -/
set_option Elab.async false

namespace Sys2Proof.Machine

/-! ## What the moves are made of -/

/-- R161: OVERFLOW is never offered to a queue; the queue makes it. -/
def Record.ordinary (r : Record) : Prop :=
  ∀ n, r ≠ .overflow n

/-- R132: the port has its link up and a frame to answer. -/
def Port.engaged (port : Port) : Prop :=
  port.state ≠ .offline ∧ port.buffer ≠ []

/-- R50, R155: nothing of the port is left in the table but ORPHANED entries, and the claim is not its own. -/
def State.forgets (s : State) (p : PortId) : Prop :=
  (∀ e ∈ s.drt, e.owner = p → e.live = false) ∧ s.holds p = false

/-- R7, R129: the request's bytes lie in one block, and lookup finds the window for them. -/
def State.reaches (s : State) (addr count : Nat) (w : WindowId) : Prop :=
  s.lookup addr = some w ∧ withinBlock addr count = true

/-- What sort of move it is: one that a link hears or makes (`talk`), an answer of a port, a read that a port holds from now
on, a request that joins the table or the queue, a part of a completion, or none of these. -/
inductive MoveKind where
  | talk
  | answer (p : PortId)
  | read (p : PortId)
  | enter
  | complete
  | reset
  | other

/-- What becomes of the record of one port. -/
inductive PortMove (s : State) (p : PortId) : MoveKind → Port → Prop
  | send : PortMove s p .talk (s.port p).send
  | offer (r : Record) (h : r.ordinary) : PortMove s p .other ((s.port p).offer r)
  | answer (r : Response) (h : (s.port p).inHand.isSome = true ∨ (s.port p).engaged) : PortMove s p (.answer p) ((s.port p).answer r)
  | read {addr count : Nat} {w : WindowId} (h : (s.port p).engaged) (online : s.online p = true)
      (reach : s.reaches addr count w) (store : (s.window w).resource = .ls) :
      PortMove s p (.read p)
        { s.port p with inHand := some (.read { offset := (s.window w).translate addr, count := count }) }
  | undrop : PortMove s p .complete { s.port p with dropped := false }
  | receive (f : Frame) (h : (s.port p).state ≠ .offline) (room : (s.port p).buffer.length < Config.bufferSize) :
      PortMove s p .talk { s.port p with buffer := (s.port p).buffer ++ [f] }
  | linkUp (h : s.linkOffered p = true) : PortMove s p .talk { s.port p with state := .attached, buffer := [], inHand := none }
  | join (h : (s.port p).state ≠ .offline) (absent : s.online p = false) : PortMove s p .other (s.port p).joined
  | detach (online : s.online p = true) (h : s.forgets p) : PortMove s p .other { (s.port p).torn with state := .attached }
  | unlink (granted : Bool) (h : (s.port p).state = .attached) : PortMove s p .talk ((s.port p).unlinked granted)
  | unlinkTorn (granted : Bool) (online : s.online p = true) (h : s.forgets p) :
      PortMove s p .talk ((s.port p).unlinked granted).torn
  | linkFault : PortMove s p .talk { s.port p with sent := (s.port p).sent ++ [.linkFault] }
  | pop : PortMove s p .other { s.port p with queue := (s.port p).queue.tail }
  | stage (st : Staging) (online : s.online p = true) (h : (s.port p).staging.fieldsOk → st.fieldsOk) :
      PortMove s p .other { s.port p with staging := st }
  | wviewSel (w : WindowId) : PortMove s p .other { s.port p with wviewSel := w }
  | tviewSel (t : Tag) : PortMove s p .other { s.port p with tviewSel := t }
  | attn (set clear : BitVec 16) (hs : kindsOnly set = true) (hc : kindsOnly clear = true) :
      PortMove s p .other { s.port p with attnEnable := updateKinds (s.port p).attnEnable set clear }

/-- R116: which of the two streams requests the bus. -/
def State.streamRequests (s : State) : Stream → Bool
  | .drain => s.drainRequests .xb
  | .fetch => s.fetchRequests .xb

/-- R98, R108: the agent of a resource is busy. -/
def State.busy (s : State) : Resource → Prop
  | .ls => s.store ≠ none
  | .xb => ∃ t, s.xbm.bus = .active t

/-- R97, R112: the agent of a resource is busy with a stream. -/
def State.serves (s : State) : Resource → Stream → Prop
  | .ls, .drain => s.store = some .drain
  | .ls, .fetch => s.store = some .fetch
  | .xb, stream => ∃ t, s.xbm.bus = .active t ∧ t.stream = stream

/-- R97, R112: the agent of a resource is left FREE or IDLE. -/
def State.leaveIdle (s : State) : Resource → State
  | .ls => { s with store := none }
  | .xb => { s with xbm := { s.xbm with bus := .idle } }

/-- R21, R50: a list after every entry with a property has been freed or made ORPHANED. -/
@[irreducible] def dismissedList (d : List Entry) (P : Entry → Bool) : List Entry :=
  (d.filter P).foldl (fun d e => e.dismissFrom d) d

/-- R6, R19: the windows after that, where those named lose the references. -/
@[irreducible] def dismissedWindows (windows : Vector Window 16) (d : List Entry) (P : Entry → Bool)
    (named : WindowId → Bool) : Vector Window 16 :=
  Vector.ofFn (fun w : Fin 16 =>
    if named w then windows[w].released (d.countP (fun e => (P e && e.phase.idle) && e.window == w)) else windows[w])

/-- R21, R50: every entry with a property is freed or made ORPHANED. -/
def State.dismiss (s : State) (P : Entry → Bool) (named : WindowId → Bool) : State :=
  { s with drt := dismissedList s.drt P, windows := dismissedWindows s.windows s.drt P named }

/-- One part of what a command does, with what its meaning has checked before. None changes the configuration. -/
inductive Move (s : State) : MoveKind → State → Prop
  | port {k : MoveKind} {p : PortId} {port' : Port} (h : PortMove s p k port') : Move s k (s.modifyPort p (fun _ => port'))
  | choose : Move s .other s.choose
  | grantPosition {pos : Position} (free : s.store = none) (up : s.inReset = false)
      (requests : s.positionRequests pos = true) : Move s .other (s.grantPosition pos)
  | grantStream {stream : Stream} (idle : s.xbm.bus = .idle) (requests : s.streamRequests stream = true) :
      Move s .other (s.grantStream stream)
  | allocate {t : Tag} {p : PortId} {kind : EntryKind} {addr count : Nat} {w : WindowId} (online : s.online p = true)
      (fresh : s.freeTag = some t) (unmatched : s.matching p kind addr count = none) (admitted : s.admits p = true)
      (reach : s.reaches addr count w) (swap : kind ≠ .read → count = 8) : Move s .enter (s.allocate t p kind addr count w)
  | accept {p : PortId} {addr : Nat} {data : List Byte} {w : WindowId} (online : s.online p = true)
      (reach : s.reaches addr data.length w) (room : s.queueRoom p = true) : Move s .enter (s.accept p addr data w)
  | orphan {e : Entry} (he : e ∈ s.drt) (h : e.phase.fetches = true) : Move s .other (s.orphan e.tag)
  | vacate {e : Entry} (he : e ∈ s.drt) (h : e.phase.idle = true) : Move s .other (s.vacate e)
  | dismiss (P : Entry → Bool) (named : WindowId → Bool) (h : ∀ e, P e = true → named e.window = true) :
      Move s .other (s.dismiss P named)
  | disable {w : WindowId} (h : (s.window w).state = .enabled) :
      Move s .other (s.modifyWindow w (fun win => { win with state := win.disabledState }))
  | grantClaim {p : PortId} (online : s.online p = true) : Move s .other (s.grantClaim p)
  | dropClaim : Move s .other { s with claim := { s.claim with held := none } }
  | leaveIdle {r : Resource} (busy : s.busy r) : Move s .complete (s.leaveIdle r)
  | popHead {r : Resource} {h : PostedWrite} {rest : List PostedWrite} (busy : s.serves r .drain)
      (queued : s.pwq = h :: rest) : Move s .complete ((s.popHead h rest).leaveIdle r)
  | fetched {r : Resource} {e : Entry} (result : FetchResult) (busy : s.serves r .fetch)
      (found : s.fetchedEntry r = some e) (h : e.phase = .fetching none) :
      Move s .complete ((s.setPhase e.tag (.ready result s.discardTime)).leaveIdle r)
  | refetch {r : Resource} {e : Entry} {n : Nat} (busy : s.serves r .fetch) (found : s.fetchedEntry r = some e)
      (h : e.phase = .fetching (some n)) : Move s .complete ((s.setPhase e.tag (.waiting n)).leaveIdle r)
  | dropFetched {r : Resource} {e : Entry} (busy : s.serves r .fetch) (found : s.fetchedEntry r = some e)
      (h : e.phase = .orphaned) : Move s .complete ((s.vacate e).leaveIdle r)
  | transaction {t t' : Transaction} (active : s.xbm.bus = .active t)
      (same : t' = { t with phase := t'.phase, beatsDone := t'.beatsDone, readData := t'.readData }) :
      Move s .other (s.setTransaction t')
  | drive (item : BusItem) : Move s .other { s with busItems := s.busItems ++ [item] }
  | memory (mem : Memory) (h : s.mem.wf = true → mem.wf = true) : Move s .other { s with mem := mem }
  | tick : Move s .other s.tick
  | resetInputs (input clearing : Bool) (h : s.inReset = true) :
      Move s .reset { s with resetInput := input, clearing := clearing }.releaseReset

/-- The parts that change the configuration: those of the claim holder's commits and settings, and device reset. -/
inductive Config (s : State) : State → Prop
  | discardInterval {p : PortId} {n : Nat} (online : s.online p = true) (low : 1 ≤ n) (high : n ≤ 4095) :
      Config s { s with discardInterval := n }
  | leaseInterval {p : PortId} {n : Nat} (online : s.online p = true) (low : 1 ≤ n) (high : n ≤ 1000) :
      Config s { s with claim := { s.claim with interval := n } }
  | timeout {p : PortId} {n : Nat} (online : s.online p = true) (low : 1 ≤ n) (high : n ≤ 1023) :
      Config s { s with xbm := { s.xbm with timeout := n } }
  | enable {p : PortId} {w : WindowId} {win : Window} (disabled : (s.window w).state = .disabled)
      (staged : (s.port p).staging.toWindow = some win) (apart : s.overlapsTable win = false) :
      Config s (s.modifyWindow w (fun old => { win with refCount := old.refCount }))
  | rights {w : WindowId} (list : RightsList) (h : (s.window w).state ≠ .disabled) :
      Config s (s.modifyWindow w (fun win => { win with rights := list }))
  | reset (input clearing : Bool) (mem : Memory) (h : (input || clearing) = true) (hm : s.mem.wf = true → mem.wf = true) :
      Config s { s.clearDevice with resetInput := input, clearing := clearing, mem := mem }

/-- What a command may do. -/
structure Scope where
  config : Prop
  talk : Prop
  answers : PortId → Prop
  admits : Prop
  completes : Prop
  resets : Prop

/-- Everything, the configuration where `config` holds. -/
def Scope.all (config : Prop) : Scope :=
  { config := config, talk := True, answers := fun _ => True, admits := True, completes := True, resets := True }

/-- Whether a command may make a move of a kind. -/
def MoveKind.allowed (L : Scope) : MoveKind → Prop
  | .talk => L.talk
  | .answer p => L.answers p
  | .read p => L.answers p ∧ L.admits
  | .enter => L.admits
  | .complete => L.completes
  | .reset => L.resets
  | .other => True

/-- Moves one after the other that a command may make; what the links do not hear of does not start device reset. -/
def Runs (L : Scope) : State → State → Prop :=
  Relation.ReflTransGen (fun s t =>
    (∃ k : MoveKind, k.allowed L ∧ Move s k t) ∨ L.config ∧ (L.talk ∨ t.ports = s.ports ∧ t.inReset = s.inReset) ∧ Config s t)

section

variable {L : Scope} {k : MoveKind} {s t u : State}

theorem Runs.refl (s : State) : Runs L s s := Relation.ReflTransGen.refl

theorem Runs.of_eq (h : t = s) : Runs L s t := by rw [h]; exact Runs.refl s

theorem Runs.trans (h : Runs L s t) (h' : Runs L t u) : Runs L s u := Relation.ReflTransGen.trans h h'

theorem Move.runs (h : Move s k t) (ok : k.allowed L := by trivial) : Runs L s t :=
  Relation.ReflTransGen.single (.inl ⟨k, ok, h⟩)

theorem Config.runs (h : Config s t) (ok : L.config) (reset : L.talk ∨ t.ports = s.ports ∧ t.inReset = s.inReset := by exact .inr ⟨rfl, rfl⟩) :
    Runs L s t :=
  Relation.ReflTransGen.single (.inr ⟨ok, reset, h⟩)

theorem PortMove.runs {p : PortId} {port' : Port} (h : PortMove s p k port') (ok : k.allowed L := by trivial) :
    Runs L s (s.modifyPort p (fun _ => port')) :=
  (Move.port h).runs ok

/-- What every move keeps, every run keeps. -/
theorem Runs.keeps {I : State → Prop} (move : ∀ k s t, k.allowed L → I s → Move s k t → I t)
    (config : L.config → ∀ s t, (L.talk ∨ t.ports = s.ports ∧ t.inReset = s.inReset) → I s → Config s t → I t) (h : Runs L s t) (hs : I s) :
    I t := by
  induction h with
  | refl => exact hs
  | tail _ step ih =>
    obtain ⟨k, ok, moved⟩ | ⟨hc, reset, configured⟩ := step
    · exact move k _ _ ok ih moved
    · exact config hc _ _ reset ih configured

end

/-! ## Moves of several ports -/

section

variable {L : Scope} {s t : State}

/-- Ports change one after the other. -/
theorem runs_mapPorts {f : PortId → Port → Port} (h : ∀ s p, Runs L s (s.modifyPort p (f p))) : Runs L s (s.mapPorts f) := by
  have chain : s.mapPorts f =
      (((s.modifyPort 0 (f 0)).modifyPort 1 (f 1)).modifyPort 2 (f 2)).modifyPort 3 (f 3) := by
    refine State.eq_of_fields (State.ports_ext fun q => ?_) rfl rfl rfl rfl rfl rfl rfl rfl rfl rfl rfl rfl rfl rfl rfl
    fin_cases q <;> simp
  rw [chain]
  exact (((h _ 0).trans (h _ 1)).trans (h _ 2)).trans (h _ 3)

theorem runs_send (s : State) (p : PortId) (talk : L.talk) : Runs L s (s.send p) := PortMove.send.runs talk

theorem runs_offer (s : State) (p : PortId) {r : Record} (h : r.ordinary) : Runs L s (s.offer p r) :=
  (PortMove.offer r h).runs

theorem runs_sendAll (s : State) (talk : L.talk) : Runs L s s.sendAll := runs_mapPorts fun s p => runs_send s p talk

theorem runs_modifyPort_of_fixed {p : PortId} {f : Port → Port} (h : f (s.port p) = s.port p) :
    Runs L s (s.modifyPort p f) :=
  Runs.of_eq (State.modifyPort_of_fixed h)

theorem runs_sendOthers (s : State) (p : PortId) (talk : L.talk) : Runs L s (s.sendOthers p) :=
  runs_mapPorts fun s q => by
    by_cases h : q = p
    · simp only [if_pos h]; exact runs_modifyPort_of_fixed rfl
    · simp only [if_neg h]; exact runs_send s q talk

theorem runs_broadcast (s : State) {r : Record} (h : r.ordinary) : Runs L s (s.broadcast r) :=
  runs_mapPorts fun s q => runs_offer s q h

theorem runs_broadcastExcept (s : State) (p : PortId) {r : Record} (h : r.ordinary) : Runs L s (s.broadcastExcept p r) :=
  runs_mapPorts fun s q => by
    by_cases hq : q = p
    · simp only [if_pos hq]; exact runs_modifyPort_of_fixed rfl
    · simp only [if_neg hq]; exact runs_offer s q h

/-- Ports that have been offered records are reached by offering them one after the other. -/
theorem runs_announces {records : PortId → List Record} (rest : t = { s with ports := t.ports })
    (announced : s.announces t records) (ordinary : ∀ q, ∀ r ∈ records q, r.ordinary) : Runs L s t := by
  have offers : ∀ (l : List Record) (s : State) (q : PortId), (∀ r ∈ l, r.ordinary) →
      Runs L s (s.modifyPort q (fun port => port.offerAll l)) := by
    intro l
    induction l with
    | nil => exact fun s q _ => runs_modifyPort_of_fixed rfl
    | cons r l ih =>
      intro s q h
      have next := ih (s.offer q r) q (fun x hx => h x (List.mem_cons_of_mem r hx))
      rw [State.offer, State.modifyPort_modifyPort] at next
      exact (runs_offer s q (h r List.mem_cons_self)).trans next
  have mapped : t = s.mapPorts (fun q port => port.offerAll (records q)) := by
    rw [rest]
    have ports : t.ports = (s.mapPorts (fun q port => port.offerAll (records q))).ports :=
      State.ports_ext fun q => by rw [announced q, State.port_mapPorts]
    rw [ports]; rfl
  rw [mapped]
  exact runs_mapPorts fun s q => offers _ s q (ordinary q)

end

/-! ## Grants -/

section

variable {L : Scope} (s : State)

theorem runs_choose : Runs L s s.choose := Move.choose.runs

theorem runs_grantStore : Runs L s s.grantStore := by
  obtain h | ⟨pos, free, up, requests, -, h⟩ := s.grantStore_cases
  · exact Runs.of_eq h
  · rw [h]; exact (Move.grantPosition free up requests).runs

/-- A stream that the bus is granted to requests it. -/
theorem chooseStream_requests {s : State} {stream : Stream}
    (h : chooseStream (s.drainRequests .xb) (s.fetchRequests .xb) s.xbm.lastStream = some stream) :
    s.streamRequests stream = true := by
  unfold State.streamRequests
  revert h
  cases s.drainRequests .xb <;> cases s.fetchRequests .xb <;> cases s.xbm.lastStream <;> cases stream <;>
    simp [chooseStream]

theorem runs_grantBus : Runs L s s.grantBus := by
  obtain h | ⟨stream, idle, chosen, h⟩ := s.grantBus_cases
  · exact Runs.of_eq h
  · rw [h]; exact (Move.grantStream idle (chooseStream_requests chosen)).runs

theorem runs_settle : Runs L s s.settle := (runs_grantStore s).trans (runs_grantBus _)

theorem runs_atOnce (talk : L.talk) : Runs L s s.atOnce := (runs_sendAll s talk).trans (runs_settle _)

theorem runs_grantBefore (lost : Bool) (first : Nat → Bool) {grant : State → State} (h : ∀ s, Runs L s (grant s)) :
    Runs L s (s.grantBefore lost first grant) := by
  obtain made | made | made := s.grantBefore_cases lost first grant
  · rw [made]; exact h s
  · rw [made]; exact (runs_choose s).trans (h _)
  · rw [made]; exact runs_choose s

theorem runs_grantsBefore (lost : Grantee → Bool) (first : Nat → Bool) : Runs L s (s.grantsBefore lost first) :=
  (runs_grantBefore s _ _ runs_grantStore).trans (runs_grantBefore _ _ _ runs_grantBus)

theorem runs_grantsBeforeLinkDown (p : PortId) : Runs L s (s.grantsBeforeLinkDown p) := by
  unfold State.grantsBeforeLinkDown
  split <;> exact runs_grantsBefore ..

theorem runs_resolve (p : PortId) (talk : L.talk) : Runs L s (s.resolve p) := by
  obtain ⟨-, h⟩ | ⟨r, -, h | h⟩ := s.resolve_cases p
  · exact Runs.of_eq h
  · rw [h]; exact (runs_choose s).trans (runs_send _ p talk)
  · rw [h]; exact runs_choose s

theorem runs_resolveAll (talk : L.talk) : Runs L s s.resolveAll :=
  (((runs_resolve s 0 talk).trans (runs_resolve _ 1 talk)).trans (runs_resolve _ 2 talk)).trans (runs_resolve _ 3 talk)

end

/-! ## Entries that go -/

section

variable {L : Scope} {s : State} {e : Entry}

theorem windowChanged_ordinary (w : WindowId) (st : WindowState) : (Record.windowChanged w st).ordinary :=
  fun _ => by simp

theorem Entry.discardRecord_ordinary (e : Entry) (cause : DiscardCause) (performed : Bool) :
    (e.discardRecord cause performed).ordinary :=
  fun _ => by simp [Entry.discardRecord]

theorem goneRecords_ordinary {ends : Prop} [Decidable ends] {w : WindowId} : ∀ r ∈ goneRecords ends w, r.ordinary := by
  intro r hr
  unfold goneRecords at hr
  split at hr
  · rw [List.mem_singleton.mp hr]; exact windowChanged_ordinary _ _
  · cases hr

/-- An entry is vacated, and the records of its release announced. -/
theorem runs_of_vacate {t : State} {records : PortId → List Record} (he : e ∈ s.drt) (h : e.phase.idle = true)
    (rest : t = { s.vacate e with ports := t.ports }) (announced : s.announces t records)
    (ordinary : ∀ q, ∀ r ∈ records q, r.ordinary) : Runs L s t :=
  (Move.vacate he h).runs.trans (runs_announces rest announced ordinary)

theorem State.freeEntry_frame' (s : State) (e : Entry) : s.freeEntry e = { s.vacate e with ports := (s.freeEntry e).ports } := by
  rw [State.freeEntry_eq]; split <;> rfl

theorem State.discardEntry_frame' (s : State) (e : Entry) (cause : DiscardCause) (performed first : Bool) :
    s.discardEntry e cause performed first =
      { s.vacate e with ports := (s.discardEntry e cause performed first).ports } := by
  have windows : (s.discardEntry e cause performed first).windows = (s.vacate e).windows :=
    State.windows_ext fun w => by
      rw [State.window_discardEntry, State.window_vacate]
  refine (State.discardEntry_frame s e cause performed first).trans ?_
  rw [State.discardEntry_drt, windows]; rfl

theorem runs_freeEntry (he : e ∈ s.drt) (h : e.phase.idle = true) : Runs L s (s.freeEntry e) :=
  runs_of_vacate he h (s.freeEntry_frame' e) (fun q => s.port_freeEntry e q) (fun _ => goneRecords_ordinary)

theorem runs_discardEntry (he : e ∈ s.drt) (h : e.phase.idle = true) (cause : DiscardCause) (performed first : Bool) :
    Runs L s (s.discardEntry e cause performed first) := by
  refine runs_of_vacate he h (s.discardEntry_frame' e cause performed first)
    (fun q => s.port_discardEntry e cause performed first q) fun q r hr => ?_
  have cases : r = e.discardRecord cause performed ∨ r ∈ goneRecords (s.lastDrainingRef e.window = true) e.window := by
    simp only [] at hr
    split at hr
    · split at hr
      · exact List.mem_cons.mp hr
      · exact (List.mem_append.mp hr).symm.imp_left List.mem_singleton.mp
    · exact .inr hr
  obtain rfl | hr := cases
  · exact Entry.discardRecord_ordinary _ _ _
  · exact goneRecords_ordinary r hr

theorem runs_expireTag (s : State) (t : Tag) : Runs L s (s.expireTag t) := by
  unfold State.expireTag
  split
  · rename_i e found
    have due := List.find?_some found
    rw [Bool.and_eq_true, Entry.due_iff] at due
    obtain ⟨-, result, phase⟩ := due
    exact (runs_choose s).trans
      (runs_discardEntry (s := s.choose) (List.mem_of_find?_eq_some found) (by rw [phase]; rfl) _ _ _)
  · exact Runs.refl s

theorem runs_refuseEntry (he : e ∈ s.drt) : Runs L s (s.refuseEntry e) := by
  unfold State.refuseEntry
  cases h : e.phase with
  | waiting n => exact (runs_choose s).trans (runs_discardEntry (s := s.choose) he (by rw [h]; rfl) _ _ _)
  | ready r n => exact (runs_choose s).trans (runs_discardEntry (s := s.choose) he (by rw [h]; rfl) _ _ _)
  | fetching n =>
    exact (runs_offer s _ (Entry.discardRecord_ordinary _ _ _)).trans (Move.orphan (s := s.offer _ _) he (by rw [h]; rfl)).runs
  | orphaned => exact Runs.refl s

end

end Sys2Proof.Machine
end

section
/-! SUPPORT. The shared operations as runs of moves: the purge step, the teardown of a port that leaves ONLINE, the
completions, and the accesses of the store. -/

/- The proofs are checked one after another: each that waits for the kernel holds the stack of a thread. -/
set_option Elab.async false

namespace Sys2Proof.Machine

/-! ## Entries dismissed together (R21, R50) -/

section

variable {L : Scope} {s : State}

theorem State.window_dismiss (s : State) (P : Entry → Bool) (named : WindowId → Bool) (w : WindowId) :
    (s.dismiss P named).window w =
      if named w = true then (s.window w).released (s.drt.countP (fun e => (P e && e.phase.idle) && e.window == w))
      else s.window w := by
  simp [State.window, State.dismiss, dismissedWindows]

theorem State.dismiss_drt (s : State) (P : Entry → Bool) (named : WindowId → Bool) :
    (s.dismiss P named).drt = (s.drt.filter P).foldl (fun d e => e.dismissFrom d) s.drt := by
  rw [State.dismiss, dismissedList]

/-- An entry that is left where entries with a property have been dismissed was in the list, or is one that is ORPHANED now;
of those with the property none is left but ORPHANED ones. -/
theorem mem_dismissed {d : List Entry} {P : Entry → Bool} {x : Entry}
    (h : x ∈ (d.filter P).foldl (fun d e => e.dismissFrom d) d) :
    ∃ e ∈ d, (x = e ∨ x = e.orphaned) ∧ (P e = true → x.phase = .orphaned) := by
  rw [foldl_dismissFrom, List.mem_map] at h
  obtain ⟨e, he, rfl⟩ := h
  obtain ⟨he, stays⟩ := List.mem_filter.mp he
  refine ⟨e, he, (ite_eq_or_eq _ _ _).symm, fun hP => ?_⟩
  have listed : ∀ Q : Phase → Bool, Q e.phase = true → (d.filter P).any (fun x => Q x.phase && x.tag == e.tag) = true :=
    fun Q hQ => List.any_eq_true.mpr ⟨e, List.mem_filter.mpr ⟨he, hP⟩, by simp [hQ]⟩
  cases phase : e.phase with
  | waiting n => rw [listed Phase.idle (by rw [phase]; rfl)] at stays; cases stays
  | ready r n => rw [listed Phase.idle (by rw [phase]; rfl)] at stays; cases stays
  | fetching r => rw [if_pos (listed Phase.fetches (by rw [phase]; rfl))]; rfl
  | orphaned => split <;> simp [Entry.orphaned, phase]

theorem State.purgeStep_frame' (s : State) (w : WindowId) :
    s.purgeStep w = { s.dismiss (fun e => e.window == w) (fun v => v == w) with ports := (s.purgeStep w).ports } := by
  have drt : (s.purgeStep w).drt = (s.dismiss (fun e => e.window == w) (fun v => v == w)).drt := by
    rw [State.purgeStep, State.endDraining_drt, foldl_drt State.purgeEntry_drt', State.dismiss_drt]
  have windows : (s.purgeStep w).windows = (s.dismiss (fun e => e.window == w) (fun v => v == w)).windows := by
    refine State.windows_ext fun v => ?_
    rw [State.window_purgeStep, State.window_dismiss]
    by_cases hv : v = w
    · subst hv
      have counted : s.drt.countP (fun e => (e.window == v && e.phase.idle) && e.window == v) = (s.purged v).length := by
        rw [State.purged, ← List.countP_eq_length_filter]
        exact List.countP_congr fun e _ => by simp; tauto
      rw [if_pos rfl, if_pos (beq_self_eq_true v), counted]
    · rw [if_neg hv, if_neg (by simpa using hv)]
  refine (State.purgeStep_frame s w).trans ?_
  rw [drt, windows]; rfl

theorem runs_purgeStep (s : State) (w : WindowId) : Runs L s (s.purgeStep w) := by
  refine (Move.dismiss (fun e => e.window == w) (fun v => v == w) fun e h => h).runs.trans
    (runs_announces (s.purgeStep_frame' w) (fun q => State.port_purgeStep q) fun q r hr => ?_)
  obtain hr | hr := List.mem_append.mp hr
  · obtain ⟨e, -, rfl⟩ := List.mem_map.mp hr
    exact Entry.discardRecord_ordinary _ _ _
  · exact goneRecords_ordinary r hr

/-! ## Teardown (R139, R140) -/

/-- R139: the tables after the teardown of a port: its entries, the windows and the claim. -/
def State.tornDown (s : State) (p : PortId) : State :=
  { s.dismiss (fun e => e.owner == p) (fun _ => true) with
    claim := if s.holds p = true then { s.claim with held := none } else s.claim }

theorem State.tornDown_of_holds {p : PortId} (h : s.holds p = true) :
    s.tornDown p =
      { s.dismiss (fun e => e.owner == p) (fun _ => true) with claim := { s.claim with held := none } } := by
  rw [State.tornDown, if_pos h]

theorem State.tornDown_of_not_holds {p : PortId} (h : ¬s.holds p = true) :
    s.tornDown p = s.dismiss (fun e => e.owner == p) (fun _ => true) := by
  rw [State.tornDown, if_neg h]; rfl

theorem runs_tornDown (s : State) (p : PortId) : Runs L s (s.tornDown p) := by
  have dismissed : Runs L s (s.dismiss (fun e => e.owner == p) (fun _ => true)) :=
    (Move.dismiss _ _ fun _ _ => rfl).runs
  by_cases h : s.holds p = true
  · rw [State.tornDown_of_holds h]
    exact dismissed.trans (Move.dropClaim (s := s.dismiss (fun e => e.owner == p) (fun _ => true))).runs
  · rw [State.tornDown_of_not_holds h]
    exact dismissed

@[simp] theorem State.port_tornDown (s : State) (p q : PortId) : (s.tornDown p).port q = s.port q := rfl

theorem State.tornDown_drt (s : State) (p : PortId) :
    (s.tornDown p).drt = (s.drt.filter (fun e => e.owner == p)).foldl (fun d e => e.dismissFrom d) s.drt :=
  s.dismiss_drt (fun e => e.owner == p) (fun _ => true)

theorem State.tornDown_claim (s : State) (p : PortId) :
    (s.tornDown p).claim = if s.holds p = true then { s.claim with held := none } else s.claim := rfl

theorem State.window_tornDown (s : State) (p : PortId) (w : WindowId) :
    (s.tornDown p).window w = (s.window w).released (s.tornAt p w) :=
  (s.window_dismiss (fun e => e.owner == p) (fun _ => true) w).trans (if_pos rfl)

theorem State.forgets_tornDown (s : State) (p : PortId) : (s.tornDown p).forgets p := by
  constructor
  · intro x hx own
    rw [State.tornDown_drt] at hx
    obtain ⟨e, -, same, gone⟩ := mem_dismissed hx
    have owner : e.owner = p := by
      obtain rfl | rfl := same <;> exact own
    rw [Entry.live, gone (beq_iff_eq.mpr owner)]; rfl
  · rw [State.holds, State.tornDown_claim]
    split
    · rename_i held
      split at held
      · cases held
      · rename_i h
        simpa [State.holds, held] using h
    · rfl

/-- A teardown leaves the tables as `tornDown` says, and changes ports besides. -/
theorem State.teardown_frame' (s : State) (p : PortId) (cause : LeaveCause) :
    s.teardown p cause = { s.tornDown p with ports := (s.teardown p cause).ports } := by
  obtain ⟨drt, window, claim, -⟩ := s.teardown_tables p cause
  have drt' : (s.teardown p cause).drt = (s.tornDown p).drt := by
    rw [drt, State.tornTables_drt, State.tornDown_drt, State.tearEntries, foldl_drt State.tearEntry_drt']
  have windows : (s.teardown p cause).windows = (s.tornDown p).windows := State.windows_ext fun w => by
    rw [window, State.window_tornTables, State.window_tornDown]
  refine (State.teardown_frame s p cause).trans ?_
  rw [drt', windows, claim, ← State.tornDown_claim]
  rfl

/-- A port that is ONLINE leaves ONLINE, by an update of its record, and is torn down. -/
theorem runs_depart {p : PortId} {g : Port → Port} (cause : LeaveCause) (absent : (g (s.port p)).online = false)
    {k : MoveKind} (move : PortMove (s.tornDown p) p k (g (s.port p)).torn) (ok : k.allowed L := by trivial) : Runs L s ((s.modifyPort p g).teardown p cause) := by
  have off : (s.modifyPort p g).online p = false := by
    rw [State.online, State.port_modifyPort, if_pos rfl, absent]
  obtain ⟨-, -, -, port⟩ := (s.modifyPort p g).teardown_tables p cause
  refine ((runs_tornDown s p).trans (move.runs ok)).trans (runs_announces
    (records := fun q => if q = p then [] else
      (.portLeft p cause :: ((s.modifyPort p g).tornWindows p).map (fun w => .windowChanged w .disabled)) ++
        (if (s.modifyPort p g).holds p = true then [.claimFreed p] else [])) ?rest (fun q => ?announced) fun q r hr => ?ordinary)
  case rest =>
    refine (State.teardown_frame' _ p cause).trans ?_
    generalize ((s.modifyPort p g).teardown p cause).ports = ports
    rfl
  case announced =>
    beta_reduce
    rw [port, State.port_tornTables, State.port_tornTables, State.port_modifyPort]
    by_cases hq : q = p
    · subst hq
      rw [if_pos rfl, if_pos rfl, if_pos rfl, if_pos rfl, State.port_modifyPort, if_pos rfl,
        Port.offerAll_of_not_online absent]
      rfl
    · rw [if_neg hq, if_neg hq, if_neg hq, State.port_modifyPort, if_neg hq, State.port_modifyPort, if_neg hq,
        State.port_tornDown,
        Port.offerAll_append, Port.offerAll_cons]
  case ordinary =>
    split at hr
    · cases hr
    · simp only [List.cons_append, List.mem_cons, List.mem_append, List.mem_map] at hr
      obtain rfl | ⟨w, -, rfl⟩ | hr := hr
      · exact fun _ => by simp
      · exact windowChanged_ordinary _ _
      · split at hr
        · rw [List.mem_singleton.mp hr]; exact fun _ => by simp
        · cases hr

theorem runs_leaveOnline {p : PortId} (online : s.online p = true) (cause : LeaveCause) :
    Runs L s (s.leaveOnline p cause) := by
  have online' : (s.tornDown p).online p = true := by rw [State.online, State.port_tornDown]; exact online
  refine runs_depart cause rfl (k := .other) ?_
  rw [← s.port_tornDown p p]
  exact PortMove.detach online' (s.forgets_tornDown p)

theorem runs_dropLink (s : State) (p : PortId) (talk : L.talk) : Runs L s (s.dropLink p) := by
  refine (runs_grantsBeforeLinkDown s p).trans ?_
  unfold State.dropLink
  generalize s.grantsBeforeLinkDown p = u
  cases state : (u.port p).state with
  | offline => simp only [state]; exact Runs.refl u
  | attached => simp only [state]; exact (PortMove.unlink (u.readGranted p) state).runs talk
  | online =>
    simp only [state]
    have online : (u.tornDown p).online p = true := by
      rw [State.online, State.port_tornDown, Port.online, state]; rfl
    refine runs_depart .link rfl (k := .talk) ?_ talk
    rw [← u.port_tornDown p p]
    exact PortMove.unlinkTorn _ online (u.forgets_tornDown p)

theorem runs_linkDown (s : State) (p : PortId) (talk : L.talk) : Runs L s (s.linkDown p) :=
  (runs_resolve s p talk).trans (runs_dropLink _ p talk)

theorem runs_sendLinkFault (s : State) (p : PortId) (talk : L.talk) : Runs L s (s.sendLinkFault p) :=
  PortMove.linkFault.runs talk

/-! ## Completions (R71, R39, R40, R49) -/

theorem State.serves.busy {r : Resource} {stream : Stream} (h : s.serves r stream) : s.busy r := by
  cases r with
  | xb => obtain ⟨t, active, -⟩ := h; exact ⟨t, active⟩
  | ls =>
    cases stream with
    | drain => exact fun free => by rw [State.serves, free] at h; cases h
    | fetch => exact fun free => by rw [State.serves, free] at h; cases h

theorem runs_withReport (s : State) {report : Option (PortId × Record)} (h : ∀ r ∈ report, r.2.ordinary) :
    Runs L s (s.withReport report) := by
  cases report with
  | none => exact Runs.refl s
  | some r => exact runs_offer s r.1 (h r rfl)

theorem faultReport_ordinary (s : State) (w : PostedWrite) (fault : Option FaultCause) :
    ∀ r ∈ fault.bind (s.faultReport w), r.2.ordinary := by
  intro r hr
  obtain ⟨cause, -, hr⟩ := Option.bind_eq_some_iff.mp hr
  unfold State.faultReport at hr
  split at hr
  · rw [← Option.some.inj hr]; exact fun _ => by simp
  · obtain ⟨h, -, rfl⟩ := Option.map_eq_some_iff.mp hr
    exact fun _ => by simp

theorem State.leaveIdle_broadcast (s : State) (r : Resource) (record : Record) :
    (s.broadcast record).leaveIdle r = (s.leaveIdle r).broadcast record := by
  cases r <;> rfl

theorem State.withReport_frame (s : State) (report : Option (PortId × Record)) :
    s.withReport report = { s with ports := (s.withReport report).ports } := by
  cases report <;> rfl

theorem State.serves_ports {r : Resource} {stream : Stream} (ports : Vector Port 4) :
    ({ s with ports := ports } : State).serves r stream ↔ s.serves r stream := by
  cases r <;> cases stream <;> rfl

theorem runs_completeDrain {r : Resource} (busy : s.serves r .drain) (fault : Option FaultCause)
    (completes : L.completes) : Runs L s ((s.completeDrain fault).leaveIdle r) := by
  cases queued : s.pwq with
  | nil => rw [State.completeDrain_of_empty queued]; exact (Move.leaveIdle busy.busy).runs completes
  | cons h rest =>
    rw [State.completeDrain_eq queued]
    have reported := runs_withReport (L := L) s (faultReport_ordinary s h fault)
    have popped : Runs L (s.withReport (fault.bind (s.faultReport h)))
        (((s.withReport (fault.bind (s.faultReport h))).popHead h rest).leaveIdle r) := by
      rw [State.withReport_frame]
      generalize (s.withReport (fault.bind (s.faultReport h))).ports = ports
      exact (Move.popHead (s := { s with ports := ports }) ((State.serves_ports ports).mpr busy) queued).runs completes
    simp only []
    split
    · rw [State.leaveIdle_broadcast]
      exact (reported.trans popped).trans (runs_broadcast _ (windowChanged_ordinary _ _))
    · exact reported.trans popped

theorem Entry.occupies_iff {e : Entry} {r : Resource} :
    e.occupies r = true ↔ e.resource = r ∧ (e.phase.fetches = true ∨ e.phase = .orphaned) := by
  unfold Entry.occupies
  cases h : e.phase <;> simp [Phase.fetches]

theorem State.leaveIdle_ports (s : State) (r : Resource) (ports : Vector Port 4) :
    ({ s with ports := ports } : State).leaveIdle r = { s.leaveIdle r with ports := ports } := by
  cases r <;> rfl

theorem State.port_leaveIdle (s : State) (r : Resource) (q : PortId) : (s.leaveIdle r).port q = s.port q := by
  cases r <;> rfl

theorem runs_completeFetch {r : Resource} (busy : s.serves r .fetch) (result : FetchResult)
    (completes : L.completes) : Runs L s ((s.completeFetch r result).leaveIdle r) := by
  cases found : s.fetchedEntry r with
  | none =>
    have nothing : s.completeFetch r result = s := by simp only [State.completeFetch, found]
    rw [nothing]; exact (Move.leaveIdle busy.busy).runs completes
  | some e =>
    obtain ⟨-, occupies⟩ := Entry.occupies_iff.mp (List.find?_some found)
    match phase : e.phase with
    | .fetching none =>
      rw [State.completeFetch_of_fetching found result phase]
      exact (Move.fetched result busy found phase).runs completes
    | .fetching (some n) =>
      rw [State.completeFetch_of_refetch found result phase]
      exact (Move.refetch busy found phase).runs completes
    | .orphaned =>
      rw [State.completeFetch_of_not_fetching found result (by simp [phase])]
      refine ((Move.dropFetched busy found phase).runs completes).trans (runs_announces
        (records := fun _ => goneRecords (s.lastDrainingRef e.window = true) e.window) ?_ (fun q => ?_)
        fun _ => goneRecords_ordinary)
      · rw [State.freeEntry_frame', State.leaveIdle_ports]
      · rw [State.port_leaveIdle, State.port_leaveIdle]; exact s.port_freeEntry e q
    | .waiting n => simp [phase, Phase.fetches] at occupies
    | .ready x n => simp [phase, Phase.fetches] at occupies

theorem runs_completeTransaction {t : Transaction} (active : s.xbm.bus = .active t) (how : BusEnd)
    (completes : L.completes) : Runs L s (s.completeTransaction t how) := by
  unfold State.completeTransaction
  cases stream : t.stream with
  | drain => exact runs_completeDrain (r := .xb) ⟨t, active, stream⟩ how.fault completes
  | fetch => exact runs_completeFetch (r := .xb) ⟨t, active, stream⟩ _ completes

theorem runs_expireTransaction {t : Transaction} (active : s.xbm.bus = .active t) (completes : L.completes) :
    Runs L s (s.expireTransaction t) :=
  (Move.drive .abort).runs.trans
    (runs_completeTransaction (s := { s with busItems := s.busItems ++ [BusItem.abort] }) active .timeout completes)

/-! ## Accesses of the store (R97, R104) -/

theorem runs_answer {p : PortId} (h : (s.port p).inHand.isSome = true ∨ (s.port p).engaged) (r : Response)
    (answers : L.answers p) : Runs L s (s.answer p r) :=
  (PortMove.answer r h).runs answers

theorem Port.inHand_of_readInHand {port : Port} {r : ReadInHand} (h : port.readInHand = some r) :
    port.inHand = some (.read r) := by
  unfold Port.readInHand at h
  split at h
  · rename_i held; rw [held, Option.some.inj h]
  · cases h

theorem runs_completeRead (s : State) (p : PortId) (answers : L.answers p) (completes : L.completes) : Runs L s (s.completeRead p) := by
  unfold State.completeRead
  split
  · exact PortMove.undrop.runs completes
  · split
    · rename_i r held
      exact runs_answer (.inl (by rw [Port.inHand_of_readInHand held]; rfl)) _ answers
    · exact Runs.refl s

theorem runs_memory {mem : Memory} (h : s.mem.wf = true → mem.wf = true) : Runs L s { s with mem := mem } :=
  (Move.memory mem h).runs

theorem State.completeStoreWrite_of_head {h : PostedWrite} {rest : List PostedWrite} (queued : s.pwq = h :: rest) :
    s.completeStoreWrite = { s with mem := s.mem.writeBytes h.dest h.data }.completeDrain none := by
  simp only [State.completeStoreWrite, queued]

theorem State.completeStoreWrite_of_empty (empty : s.pwq = []) : s.completeStoreWrite = s := by
  simp only [State.completeStoreWrite, empty]

section

variable {e : Entry}

theorem State.completeStoreFetch_of_none (none : s.fetchedEntry .ls = none) : s.completeStoreFetch = s := by
  simp only [State.completeStoreFetch, none]

theorem State.completeStoreFetch_of_read (found : s.fetchedEntry .ls = some e) (kind : e.kind = .read) :
    s.completeStoreFetch = s.completeFetch .ls (.ok (s.mem.readRange e.dest e.count) none) := by
  simp only [State.completeStoreFetch, found, kind]

theorem State.completeStoreFetch_of_swap {compareValue swapValue : List Byte} (found : s.fetchedEntry .ls = some e)
    (kind : e.kind = .swap compareValue swapValue) :
    s.completeStoreFetch =
      { s with mem := swappedMemory s.mem e.dest compareValue swapValue }.completeFetch .ls
        (.ok (s.mem.readRange e.dest 8) (some (swapOutcome (s.mem.readRange e.dest 8) compareValue))) := by
  simp only [State.completeStoreFetch, found, kind]

end

/-- The access of a position completes where it lies within the store. -/
theorem runs_completeAccess {pos : Position} (busy : s.store = some pos) (inside : s.accessInStore pos = true)
    (answers : ∀ p, L.answers p) (completes : L.completes) : Runs L s (s.completeAccess pos) := by
  have idle : Runs L s { s with store := none } := (Move.leaveIdle (r := .ls) (by rw [State.busy, busy]; simp)).runs completes
  rw [State.accessInStore, decide_eq_true_iff] at inside
  unfold State.completeAccess
  cases pos with
  | port p =>
    refine (runs_completeRead s p (answers p) completes).trans ((Move.leaveIdle (r := .ls) ?_).runs completes)
    rw [State.busy, State.completeRead_store, busy]; simp
  | drain =>
    simp only []
    cases queued : s.pwq with
    | nil => rw [State.completeStoreWrite_of_empty queued]; exact idle
    | cons h rest =>
      simp only [State.accessRange, queued] at inside
      rw [State.completeStoreWrite_of_head queued]
      exact (runs_memory (Memory.wf_writeBytes inside)).trans
        (runs_completeDrain (r := .ls) (s := { s with mem := s.mem.writeBytes h.dest h.data }) busy none completes)
  | fetch =>
    simp only []
    cases found : s.fetchedEntry .ls with
    | none => rw [State.completeStoreFetch_of_none found]; exact idle
    | some e =>
      cases kind : e.kind with
      | read => rw [State.completeStoreFetch_of_read found kind]; exact runs_completeFetch (r := .ls) busy _ completes
      | swap compareValue swapValue =>
        simp only [State.accessRange, found, kind] at inside
        rw [State.completeStoreFetch_of_swap found kind]
        exact (runs_memory (Memory.wf_swappedMemory inside)).trans
          (runs_completeFetch (r := .ls) (s := { s with mem := swappedMemory s.mem e.dest compareValue swapValue }) busy _ completes)

end

end Sys2Proof.Machine
end

section
/-! SUPPORT. Every command as a run of moves, row by row: the takings with the rules that decide them, the requests that reach
memory, the links, the timers, the completions and the resets; and what that makes of the laws that every move keeps. -/

/- The proofs are checked one after another: each that waits for the kernel holds the stack of a thread. -/
set_option Elab.async false

namespace Sys2Proof

/-- The commands whose moves may change the configuration. -/
def Instr.configures : Instr → Bool
  | .powerOn => true
  | .resetInputAsserted => true
  | .enable _ => true
  | .rights _ => true
  | .discardIv _ => true
  | .leaseIv _ => true
  | .xbTimeout _ => true
  | _ => false

/-- R125, R130, R138, R185: the commands that are a link's, or start device reset. -/
def Instr.hears : Instr → Bool
  | .powerOn => true
  | .resetInputAsserted => true
  | .linkUp _ => true
  | .linkDown _ _ => true
  | .frameArrival _ _ => true
  | _ => false

/-- R29, R60, R84: the commands whose request may join the table or the queue. -/
def Instr.admits : Instr → Bool
  | .read _ => true
  | .write _ => true
  | .swap _ => true
  | _ => false

/-- R97, R112, R113: the commands in which an agent may complete what it serves. -/
def Instr.completes : Instr → Bool
  | .lsAccessCompletion => true
  | .ending _ _ => true
  | .expansionTimeout => true
  | .timebaseUnit => true
  | _ => false

/-- R185, R186: the commands that change a level of the reset inputs. -/
def Instr.resets : Instr → Bool
  | .storeClearingComplete => true
  | .resetInputAsserted => true
  | .resetInputDeasserted => true
  | _ => false

/-- R132: the port that takes a frame in a command. -/
def Instr.takenAt : Instr → Option PortId
  | .resend p | .read p | .write p | .swap p | .join p | .leave p | .acquire p | .renew p | .release p | .enable p
  | .disable p | .purge p | .rights p | .evict p | .notice p | .evpop p | .attnen p | .wstgHost p | .wstgSize p
  | .wstgDest p | .wstgRights p | .discardIv p | .leaseIv p | .xbTimeout p | .wviewSel p | .tviewSel p | .ctlWrite p => some p
  | _ => none

/-- R104, R132: the commands in which a port may answer: those that take a frame, and the completion of an access. -/
def Instr.answers (c : Instr) (p : PortId) : Prop :=
  c = .lsAccessCompletion ∨ c.takenAt = some p

/-- What a command may do. -/
def Instr.scope (c : Instr) : Machine.Scope :=
  { config := c.configures = true, talk := c.hears = true, answers := c.answers, admits := c.admits = true
    completes := c.completes = true, resets := c.resets = true }

/-- R132, R143: what a command starts from: every response that has been decided has left, but for the commands that may come
before it. -/
def Instr.start (c : Instr) (s : Machine.State) : Machine.State :=
  match c with
  | .powerOn => s
  | .resetInputAsserted => s
  | .linkDown _ _ => s
  | .frameArrival _ _ => s
  | _ => s.sendAll

end Sys2Proof

namespace Sys2Proof.Machine

/-! ## The port that takes a frame (R132) -/

section

variable {s : State} {p q : PortId}

theorem Port.engaged_offer {port : Port} (h : port.engaged) (r : Record) : (port.offer r).engaged := by
  rw [Port.offer_frame]
  exact h

theorem Port.engaged_offerAll {port : Port} (h : port.engaged) (l : List Record) : (port.offerAll l).engaged := by
  induction l generalizing port with
  | nil => exact h
  | cons r l ih => exact ih (Port.engaged_offer h r)

theorem State.engaged_of_frameToTake {f : Frame} (h : s.frameToTake p = some f) : (s.port p).engaged := by
  unfold State.frameToTake at h
  simp only [] at h
  split at h
  · rename_i up
    simp only [Bool.and_eq_true, bne_iff_ne] at up
    exact ⟨up.1, fun empty => by simp [empty] at h⟩
  · cases h

/-- A port that is given an offer, or that is another one, still has its frame to answer. -/
theorem State.engaged_offer (h : (s.port p).engaged) (r : Record) : ((s.offer q r).port p).engaged := by
  rw [State.port_offer]
  split
  · rename_i same; subst same; exact Port.engaged_offer h r
  · exact h

theorem State.engaged_broadcast (h : (s.port p).engaged) (r : Record) : ((s.broadcast r).port p).engaged := by
  rw [State.port_broadcast]; exact Port.engaged_offer h r

theorem State.engaged_broadcastExcept (h : (s.port p).engaged) (r : Record) :
    ((s.broadcastExcept q r).port p).engaged := by
  rw [State.port_broadcastExcept]
  split
  · exact h
  · exact Port.engaged_offer h r

theorem State.engaged_freeEntry (h : (s.port p).engaged) (e : Entry) : ((s.freeEntry e).port p).engaged := by
  rw [State.port_freeEntry]; exact Port.engaged_offerAll h _

theorem State.engaged_discardEntry (h : (s.port p).engaged) (e : Entry) (cause : DiscardCause) (performed first : Bool) :
    ((s.discardEntry e cause performed first).port p).engaged := by
  rw [State.port_discardEntry]; exact Port.engaged_offerAll h _

theorem State.engaged_refuseEntry (h : (s.port p).engaged) (e : Entry) : ((s.refuseEntry e).port p).engaged := by
  unfold State.refuseEntry
  split
  · exact State.engaged_discardEntry (s := s.choose) h _ _ _ _
  · exact State.engaged_discardEntry (s := s.choose) h _ _ _ _
  · exact State.engaged_offer h _
  · exact h

/-- A port keeps its frame at its own teardown with the link up, and at another port's. -/
theorem State.engaged_leaveOnline (h : (s.port p).engaged) (cause : LeaveCause) :
    ((s.leaveOnline q cause).port p).engaged := by
  obtain ⟨-, -, -, port⟩ := (s.modifyPort q (fun port => { port with state := .attached })).teardown_tables q cause
  rw [State.leaveOnline, port, State.port_tornTables, State.port_tornTables, State.port_modifyPort, State.port_modifyPort]
  by_cases hq : p = q
  · subst hq
    rw [if_pos rfl, if_pos rfl, if_pos rfl, Port.offerAll_of_not_online rfl]
    exact ⟨PortState.noConfusion, h.2⟩
  · rw [if_neg hq, if_neg hq, if_neg hq]
    exact Port.engaged_offerAll (Port.engaged_offerAll (Port.engaged_offer h _) _) _

end

/-! ## Takings and control writes (R132, R133, R179) -/

section

variable {L : Scope} {s u : State} {p : PortId}

theorem runs_take {row : TakeRow} {decide : State → Frame → State} {lost : State → Frame → Grantee → Bool}
    (h : ∀ u f, f.row = row → (u.port p).engaged → Runs L u (decide u f)) :
    Runs L s.sendAll (s.take p row decide lost) := by
  obtain ⟨f, taken, ofRow, made⟩ | ⟨-, made⟩ := s.take_cases p row decide lost
  · rw [made]
    refine (runs_grantsBefore _ _ _).trans (h _ f ofRow ?_)
    rw [State.port_grantsBefore]
    exact State.engaged_of_frameToTake taken
  · rw [made]
    exact runs_settle _

theorem runs_refuse (h : (u.port p).engaged) (r : RefusedReason) (answers : L.answers p) : Runs L u (u.refuse p r) :=
  runs_answer (.inr h) _ answers

/-- What the rule of a register carries out is a run, and leaves the port its frame to answer. -/
def Verdict.Runs (L : Scope) (u : State) (p : PortId) (verdict : Verdict) : Prop :=
  ∀ v, verdict = .done v → Machine.Runs L u v ∧ (v.port p).engaged

theorem Verdict.runs_refused (u : State) (p : PortId) (r : RefusedReason) : Verdict.Runs L u p (.refused r) :=
  fun _ h => by cases h

theorem Verdict.runs_done {v : State} (h : Machine.Runs L u v) (hp : (v.port p).engaged) : Verdict.Runs L u p (.done v) :=
  fun _ h' => by cases h'; exact ⟨h, hp⟩

theorem runs_conclude {verdict : Verdict} (hp : (u.port p).engaged) (h : verdict.Runs L u p) (answers : L.answers p) :
    Runs L u (u.conclude p verdict) := by
  cases verdict with
  | done v =>
    obtain ⟨ran, engaged⟩ := h v rfl
    exact ran.trans (runs_answer (.inr engaged) _ answers)
  | refused r => exact runs_refuse hp r answers

theorem runs_controlWrite {r : Reg} {value : List Byte} {rule : Verdict} (hp : (u.port p).engaged)
    (h : (u.online p = true ∨ r = .pjoin) → rule.Runs L u p) (answers : L.answers p) :
    Runs L u (u.controlWrite p r value rule) := by
  cases refusal : u.writeRefusal p r value with
  | some reason => rw [State.controlWrite_of_refused refusal]; exact runs_refuse hp reason answers
  | none =>
    rw [State.controlWrite_of_accepted refusal]
    exact runs_conclude hp (h (State.writeRefusal_eq_none_iff.mp refusal).1) answers

/-- The same for the registers whose writes need an ONLINE port. -/
theorem runs_onlineWrite {r : Reg} {value : List Byte} {rule : Verdict} (hp : (u.port p).engaged) (hr : r ≠ .pjoin)
    (h : u.online p = true → rule.Runs L u p) (answers : L.answers p) : Runs L u (u.controlWrite p r value rule) :=
  runs_controlWrite hp (fun online => h (online.resolve_right hr)) answers

/-! ## The rules of the registers -/

theorem acquireRule_runs (hp : (u.port p).engaged) (online : u.online p = true) :
    (u.acquireRule p).Runs L u p := by
  have granted := Verdict.runs_done (Move.grantClaim online).runs (L := L) (p := p) hp
  unfold State.acquireRule
  split
  · exact granted
  · split
    · exact granted
    · exact Verdict.runs_refused u p _

theorem renewRule_runs (hp : (u.port p).engaged) (online : u.online p = true) : (u.renewRule p).Runs L u p := by
  unfold State.renewRule
  split
  · exact Verdict.runs_done (Move.grantClaim online).runs hp
  · exact Verdict.runs_refused u p _

theorem runs_freeClaim (u : State) (p : PortId) : Runs L u (u.freeClaim p) :=
  Move.dropClaim.runs.trans (runs_broadcastExcept _ p fun _ => by simp)

theorem releaseRule_runs (hp : (u.port p).engaged) : (u.releaseRule p).Runs L u p := by
  unfold State.releaseRule
  split
  · exact Verdict.runs_done (runs_freeClaim u p) (State.engaged_broadcastExcept hp _)
  · exact Verdict.runs_refused u p _

theorem settingRule_runs {value : List Byte} {limit : Nat} {put : Nat → State}
    (h : ∀ n, 1 ≤ n → n ≤ limit → Runs L u (put n) ∧ ((put n).port p).engaged) :
    (settingRule value limit put).Runs L u p := by
  unfold settingRule
  split
  · rename_i range
    simp only [Bool.and_eq_true, decide_eq_true_eq] at range
    obtain ⟨ran, engaged⟩ := h _ range.1 range.2
    exact Verdict.runs_done ran engaged
  · exact Verdict.runs_refused u p _

/-- A change of the writing port's own record that leaves its state and its frames. -/
theorem Verdict.runs_port {port' : Port} (hp : (u.port p).engaged) (move : PortMove u p .other port')
    (state : port'.state = (u.port p).state) (buffer : port'.buffer = (u.port p).buffer) :
    Verdict.Runs L u p (.done (u.modifyPort p (fun _ => port'))) := by
  refine Verdict.runs_done move.runs ?_
  rw [State.port_modifyPort, if_pos rfl]
  exact ⟨by rw [state]; exact hp.1, by rw [buffer]; exact hp.2⟩

theorem wviewSelRule_runs (hp : (u.port p).engaged) (value : List Byte) : (u.wviewSelRule p value).Runs L u p := by
  unfold State.wviewSelRule
  split
  · exact Verdict.runs_port hp (.wviewSel _) rfl rfl
  · exact Verdict.runs_refused u p _

theorem tviewSelRule_runs (hp : (u.port p).engaged) (value : List Byte) : (u.tviewSelRule p value).Runs L u p := by
  unfold State.tviewSelRule
  split
  · exact Verdict.runs_port hp (.tviewSel _) rfl rfl
  · exact Verdict.runs_refused u p _

theorem noticeRule_runs (hp : (u.port p).engaged) (value : List Byte) : (u.noticeRule p value).Runs L u p := by
  unfold State.noticeRule
  split
  · exact Verdict.runs_refused u p _
  · split
    · exact Verdict.runs_done (runs_offer u _ fun _ => by simp) (State.engaged_offer hp _)
    · exact Verdict.runs_refused u p _

theorem attnenRule_runs (hp : (u.port p).engaged) (value : List Byte) : (u.attnenRule p value).Runs L u p := by
  by_cases kinds : kindsOnly (setList value) = true ∧ kindsOnly (clearList value) = true
  · rw [State.attnenRule_of_kinds kinds.1 kinds.2]
    exact Verdict.runs_port hp (.attn _ _ kinds.1 kinds.2) rfl rfl
  · rw [State.attnenRule_of_not_kinds kinds]
    exact Verdict.runs_refused u p _

theorem stageRule_runs {α : Type} (hp : (u.port p).engaged) (online : u.online p = true) {v : Option α}
    {put : Staging → α → Staging} (h : ∀ st x, v = some x → st.fieldsOk → (put st x).fieldsOk) :
    (u.stageRule p v put).Runs L u p := by
  cases v with
  | none => exact Verdict.runs_refused u p _
  | some x => exact Verdict.runs_port hp (.stage _ online (h _ x rfl)) rfl rfl

theorem joinRule_runs (hp : (u.port p).engaged) : (u.joinRule p).Runs L u p := by
  unfold State.joinRule
  split
  · exact Verdict.runs_refused u p _
  · rename_i absent
    refine Verdict.runs_done ((PortMove.join hp.1 (Bool.eq_false_iff.mpr absent)).runs.trans
      (runs_broadcastExcept _ p fun _ => by simp)) (State.engaged_broadcastExcept ?_ _)
    rw [State.port_modifyPort, if_pos rfl]
    exact ⟨PortState.noConfusion, hp.2⟩

theorem leaveRule_runs (hp : (u.port p).engaged) : (u.leaveRule p).Runs L u p := by
  unfold State.leaveRule
  split
  · rename_i online
    exact Verdict.runs_done (runs_leaveOnline online _) (State.engaged_leaveOnline hp _)
  · exact Verdict.runs_refused u p _

theorem evictRule_runs (hp : (u.port p).engaged) (value : List Byte) : (u.evictRule p value).Runs L u p := by
  unfold State.evictRule
  split
  · exact Verdict.runs_refused u p _
  · split
    · exact Verdict.runs_refused u p _
    · split
      · exact Verdict.runs_refused u p _
      · rename_i online
        exact Verdict.runs_done (runs_leaveOnline (by simpa using online) _) (State.engaged_leaveOnline hp _)

theorem commitRule_runs {value : List Byte} {action : WindowId → Verdict} (h : ∀ w, (action w).Runs L u p) :
    (commitRule value action).Runs L u p := by
  unfold commitRule
  split
  · exact Verdict.runs_refused u p _
  · exact h _

theorem enableRule_runs (hp : (u.port p).engaged) (w : WindowId) (configures : L.config) : (u.enableRule p w).Runs L u p := by
  unfold State.enableRule
  split
  · exact Verdict.runs_refused u p _
  · rename_i disabled
    split
    · exact Verdict.runs_refused u p _
    · rename_i win staged
      split
      · exact Verdict.runs_refused u p _
      · rename_i apart
        have config : Config u (u.modifyWindow w (fun old => { win with refCount := old.refCount })) :=
          Config.enable (by simpa using disabled) staged (Bool.eq_false_iff.mpr apart)
        have engaged := State.engaged_broadcast (s := u.modifyWindow w (fun old => { win with refCount := old.refCount }))
          (by rw [State.port_modifyWindow]; exact hp) (.windowChanged w .enabled)
        have ran := (config.runs configures).trans (runs_broadcast _ (windowChanged_ordinary w .enabled))
        exact Verdict.runs_done ran engaged

theorem runs_disableWindow {w : WindowId} (h : (u.window w).state = .enabled) : Runs L u (u.disableWindow w) := by
  have moved : u.modifyWindow w (fun win => { win with state := (u.window w).disabledState }) =
      u.modifyWindow w (fun win => { win with state := win.disabledState }) := State.modifyWindow_congr rfl
  rw [State.disableWindow, State.setWindowState, moved]
  exact (Move.disable h).runs.trans (runs_broadcast _ (windowChanged_ordinary _ _))

theorem State.engaged_disableWindow (hp : (u.port p).engaged) (w : WindowId) : ((u.disableWindow w).port p).engaged := by
  rw [State.disableWindow, State.port_setWindowState]; exact Port.engaged_offer hp _

theorem disableRule_runs (hp : (u.port p).engaged) (w : WindowId) : (u.disableRule w).Runs L u p := by
  unfold State.disableRule
  split
  · rename_i enabled
    exact Verdict.runs_done (runs_disableWindow (beq_iff_eq.mp enabled)) (State.engaged_disableWindow hp w)
  · exact Verdict.runs_refused u p _

theorem State.engaged_purgeStep (hp : (u.port p).engaged) (w : WindowId) : ((u.purgeStep w).port p).engaged := by
  rw [State.port_purgeStep]; exact Port.engaged_offerAll hp _

theorem purgeRule_runs (hp : (u.port p).engaged) (w : WindowId) : (u.purgeRule w).Runs L u p := by
  unfold State.purgeRule
  split
  · exact Verdict.runs_refused u p _
  · exact Verdict.runs_done (runs_purgeStep u w) (State.engaged_purgeStep hp w)
  · rename_i enabled
    split
    · exact Verdict.runs_done (runs_disableWindow enabled) (State.engaged_disableWindow hp w)
    · have disabled : ((u.disableWindow w).port p).engaged := State.engaged_disableWindow hp w
      exact Verdict.runs_done ((runs_disableWindow enabled).trans (runs_purgeStep (u.disableWindow w) w))
        (State.engaged_purgeStep disabled w)

theorem rightsRule_runs (hp : (u.port p).engaged) (w : WindowId) (configures : L.config) : (u.rightsRule p w).Runs L u p := by
  unfold State.rightsRule
  split
  · exact Verdict.runs_refused u p _
  · rename_i present
    split
    · exact Verdict.runs_refused u p _
    · exact Verdict.runs_done
        (((Config.rights _ (by simpa using present)).runs configures).trans (runs_broadcast _ (windowChanged_ordinary _ _)))
        (State.engaged_broadcast hp _)

/-! ## Requests that reach memory (R29, R60, R84) -/

theorem runs_rerequest {e : Entry} (hp : (u.port p).engaged) (he : e ∈ u.drt) (answers : L.answers p) :
    Runs L u (u.rerequest p e) := by
  unfold State.rerequest
  split
  · split
    · rename_i phase
      exact (runs_freeEntry he (by rw [phase]; rfl)).trans (runs_answer (.inr (State.engaged_freeEntry hp e)) _ answers)
    · exact runs_answer (.inr hp) _ answers
  · exact (runs_refuseEntry he).trans (runs_refuse (State.engaged_refuseEntry hp e) _ answers)

/-- A request of an ONLINE port that matches no entry and that lookup finds a window for is allocated or finds no slot. -/
theorem runs_delay {kind : EntryKind} {addr count : Nat} {w : WindowId} (hp : (u.port p).engaged)
    (online : u.online p = true) (unmatched : u.matching p kind addr count = none) (reach : u.reaches addr count w)
    (swap : kind ≠ .read → count = 8) (answers : L.answers p) (admits : L.admits) : Runs L u (u.delay p kind addr count w) := by
  unfold State.delay
  split
  · rename_i admitted
    split
    · rename_i fresh
      exact ((Move.allocate online fresh unmatched admitted reach swap).runs admits).trans
        (runs_answer (s := u.allocate _ p kind addr count w) (.inr hp) _ answers)
    · exact runs_answer (.inr hp) _ answers
  · exact runs_answer (.inr hp) _ answers

theorem runs_takeRead {addr count : Nat} (hp : (u.port p).engaged) (online : u.online p = true)
    (within : withinBlock addr count = true) (answers : L.answers p) (admits : L.admits) : Runs L u (u.takeRead p addr count) := by
  unfold State.takeRead
  split
  · rename_i e found
    exact runs_rerequest hp (List.mem_of_find?_eq_some found) answers
  · rename_i unmatched
    unfold State.newRead
    split
    · exact runs_refuse hp _ answers
    · rename_i w found
      simp only []
      split
      · exact runs_refuse hp _ answers
      · split
        · rename_i immediate
          rw [Bool.and_eq_true, beq_iff_eq] at immediate
          exact (PortMove.read hp online ⟨found, within⟩ immediate.1).runs ⟨answers, admits⟩
        · exact runs_delay hp online unmatched ⟨found, within⟩ (fun swap => absurd rfl swap) answers admits

theorem runs_takeWrite {addr : Nat} {data : List Byte} (hp : (u.port p).engaged) (online : u.online p = true)
    (within : withinBlock addr data.length = true) (answers : L.answers p) (admits : L.admits) : Runs L u (u.takeWrite p addr data) := by
  unfold State.takeWrite
  split
  · exact runs_refuse hp _ answers
  · rename_i w found
    split
    · exact runs_refuse hp _ answers
    · split
      · exact runs_answer (.inr hp) _ answers
      · rename_i room
        exact ((Move.accept online ⟨found, within⟩ (by simpa using room)).runs admits).trans
          (runs_answer (s := u.accept p addr data w) (.inr hp) _ answers)

/-- An aligned word lies within its block. -/
theorem withinBlock_of_aligned {addr : Nat} (h : addr % 8 = 0) : withinBlock addr 8 = true := by
  rw [withinBlock, Config.blockSize, decide_eq_true_iff]
  omega

theorem runs_takeSwap {addr : Nat} {compareValue swapValue : List Byte} (hp : (u.port p).engaged)
    (online : u.online p = true) (aligned : addr % 8 = 0) (answers : L.answers p) (admits : L.admits) :
    Runs L u (u.takeSwap p addr compareValue swapValue) := by
  unfold State.takeSwap
  split
  · rename_i e found
    exact runs_rerequest hp (List.mem_of_find?_eq_some found) answers
  · rename_i unmatched
    unfold State.newSwap
    split
    · exact runs_refuse hp _ answers
    · rename_i w found
      split
      · exact runs_refuse hp _ answers
      · split
        · exact runs_refuse hp _ answers
        · exact runs_delay hp online unmatched ⟨found, withinBlock_of_aligned aligned⟩ (fun _ => rfl) answers admits

/-- No control write has the row of a request that reaches memory. -/
theorem TakeRow.ofWrite_not_memory (r : Reg) (value : List Byte) :
    TakeRow.ofWrite r value ≠ .read ∧ TakeRow.ofWrite r value ≠ .write ∧ TakeRow.ofWrite r value ≠ .swap := by
  cases r with
  | pjoin => simp only [TakeRow.ofWrite, TakeRow.ofJoinCommand]; split <;> simp
  | claim => simp only [TakeRow.ofWrite, TakeRow.ofClaimCommand]; split <;> simp
  | wcommit => simp only [TakeRow.ofWrite, TakeRow.ofCommitAction]; split <;> simp
  | _ => simp [TakeRow.ofWrite]

/-- The frames of the rows that reach memory are those of their kinds. -/
theorem Frame.kind_of_row {f : Frame} :
    (f.row = .read → f.kind = some .read) ∧ (f.row = .write → f.kind = some .write) ∧
      (f.row = .swap → f.kind = some .swap) := by
  unfold Frame.row
  split
  · split
    · rename_i kind; simp [kind]
    · rename_i kind; simp [kind]
    · rename_i kind; simp [kind]
    · split <;> simp
    · split
      · rename_i r _ _
        obtain ⟨read, write, swap⟩ := TakeRow.ofWrite_not_memory r (f.payload .ctlWrite)
        exact ⟨fun h => absurd h read, fun h => absurd h write, fun h => absurd h swap⟩
      · simp
    · simp
  · simp

/-- What well-formedness says of the requests that reach memory (R129). -/
theorem Frame.wellFormed_read {f : Frame} (row : f.row = .read) (h : f.wellFormed = true) :
    withinBlock f.addr f.count = true := by
  rw [Frame.wellFormed, Frame.kind_of_row.1 row] at h
  simp only [Frame.rangeOk, Bool.and_eq_true] at h
  exact h.1.2

theorem Frame.wellFormed_write {f : Frame} (row : f.row = .write) (h : f.wellFormed = true) :
    withinBlock f.addr (f.payload .write).length = true := by
  rw [Frame.wellFormed, Frame.kind_of_row.2.1 row] at h
  simp only [Frame.rangeOk, Bool.and_eq_true, beq_iff_eq] at h
  rw [h.2]
  exact h.1.2

theorem Frame.wellFormed_swap {f : Frame} (row : f.row = .swap) (h : f.wellFormed = true) : f.addr % 8 = 0 := by
  rw [Frame.wellFormed, Frame.kind_of_row.2.2 row] at h
  simp only [Bool.and_eq_true, beq_iff_eq] at h
  exact h.1

end

end Sys2Proof.Machine
end

section
/-! SUPPORT. Every command is a run of moves, and every step of the machine. -/

/- The proofs are checked one after another: each that waits for the kernel holds the stack of a thread. -/
set_option Elab.async false

namespace Sys2Proof.Machine

section

variable {L L' : Scope} {s t u : State} {p : PortId}

theorem Runs.weaken (config : L.config → L'.config) (talk : L.talk → L'.talk) (allowed : ∀ k : MoveKind, k.allowed L → k.allowed L')
    (ran : Runs L s t) : Runs L' s t :=
  Relation.ReflTransGen.mono
    (fun _ _ step => step.imp (fun ⟨k, ok, move⟩ => ⟨k, allowed k ok, move⟩) (And.imp config (And.imp_left (Or.imp_left talk)))) s t ran

theorem MoveKind.allowed_all (k : MoveKind) (config : Prop) : k.allowed (.all config) := by
  cases k with
  | read p => exact ⟨trivial, trivial⟩
  | _ => trivial

theorem takenAt_command (row : TakeRow) (p : PortId) : (row.command p).takenAt = some p := by
  cases row <;> rfl

theorem answers_command (row : TakeRow) (p : PortId) : (row.command p).scope.answers p :=
  .inr (takenAt_command row p)

/-- What a command answers is a run, where its meaning is one. -/
theorem Runs.of_next {o : Host.Outcome State Fault Refusal} (h : o = .next t) (made : o = .next u) (ran : Runs L s u) :
    Runs L s t := by
  cases made.symm.trans h
  exact ran

/-! ## Frames (R129, R133, R179) -/

/-- A request that reaches memory is refused MALFORMED or NOT_JOINED, or carried out (R129, R133). -/
theorem runs_request {f : Frame} {rule : State} (hp : (u.port p).engaged)
    (h : f.wellFormed = true → u.online p = true → Runs L u rule) (answers : L.answers p) :
    Runs L u (if !f.wellFormed then u.refuse p .malformed else if !u.online p then u.refuse p .notJoined else rule) := by
  split
  · exact runs_refuse hp _ answers
  · rename_i formed
    split
    · exact runs_refuse hp _ answers
    · rename_i online
      exact h (by simpa using formed) (by simpa using online)

theorem runs_controlRead (hp : (u.port p).engaged) (offset length : Nat) (answers : L.answers p) :
    Runs L u (u.controlRead p offset length) := by
  unfold State.controlRead
  split
  · exact runs_refuse hp _ answers
  · split
    · exact runs_answer (.inr hp) _ answers
    · exact runs_refuse hp _ answers

theorem runs_otherWrite (hp : (u.port p).engaged) (offset : Nat) (value : List Byte) (answers : L.answers p) :
    Runs L u (u.otherWrite p offset value) := by
  unfold State.otherWrite
  split
  · exact runs_controlWrite hp (fun _ => Verdict.runs_refused u p _) answers
  · split <;> exact runs_refuse hp _ answers

theorem runs_ctlWrite (hp : (u.port p).engaged) (f : Frame) (answers : L.answers p) :
    Runs L u (if !f.wellFormed then u.refuse p .malformed
      else if f.kind == some .ctlRead then u.controlRead p f.offset f.count
      else u.otherWrite p f.offset (f.payload .ctlWrite)) := by
  split
  · exact runs_refuse hp _ answers
  · split
    · exact runs_controlRead hp _ _ answers
    · exact runs_otherWrite hp _ _ answers

theorem runs_evpop (hp : (u.port p).engaged) (f : Frame) (answers : L.answers p) :
    Runs L u (if f.count == Reg.evpop.width then (u.popQueue p).answer p (.data (u.registerBytes p .evpop) none)
      else u.refuse p .wrongAccess) := by
  have popped : ((u.popQueue p).port p).engaged := by
    rw [State.popQueue, State.port_modifyPort, if_pos rfl]; exact hp
  split
  · exact PortMove.pop.runs.trans (runs_answer (.inr popped) _ answers)
  · exact runs_refuse hp _ answers

/-! ## Links (R125, R130, R131, R138) -/

theorem runs_linkUp (talk : L.talk) : Runs L s (if s.linkOffered p then
    s.modifyPort p (fun port => { port with state := .attached, buffer := [], inHand := none }) else s) := by
  split
  · rename_i offered
    exact (PortMove.linkUp offered).runs talk
  · exact Runs.refl s

theorem runs_receive (f : Frame) (up : (s.port p).state ≠ .offline) (talk : L.talk) : Runs L s (s.receive p f) := by
  unfold State.receive
  split
  · rename_i room
    refine (runs_settle s).trans ((PortMove.receive (s := s.settle) f ?_ ?_).runs talk)
    · rw [State.port_settle]; exact up
    · rw [State.port_settle]; exact room
  · exact (runs_sendLinkFault s p talk).trans (runs_dropLink _ p talk)

theorem State.resolve_state (s : State) (p q : PortId) : ((s.resolve p).port q).state = (s.port q).state := by
  obtain ⟨-, h⟩ | ⟨r, -, h | h⟩ := s.resolve_cases p
  · rw [h]
  · rw [h, State.port_send]
    split
    · rename_i same; rw [Port.send_state, same]; rfl
    · rfl
  · rw [h]; rfl

theorem runs_frameArrival (f : Frame) (up : (s.port p).state ≠ .offline) (talk : L.talk) :
    Runs L s (if (s.port p).buffer.length < Config.bufferSize then s.sendAll.receive p f
      else ((s.sendOthers p).resolve p).receive p f) := by
  split
  · exact (runs_sendAll s talk).trans (runs_receive f (by rw [State.port_sendAll, Port.send_state]; exact up) talk)
  · refine (runs_sendOthers s p talk).trans ((runs_resolve _ p talk).trans (runs_receive f ?_ talk))
    rw [State.resolve_state, State.port_sendOthers, if_pos rfl]
    exact up

/-! ## Timers (R45, R113, R151, R184) -/

theorem runs_expireDueLease (s : State) : Runs L s s.expireDueLease := by
  unfold State.expireDueLease
  split
  · split
    · exact Move.dropClaim.runs.trans
        ((runs_offer _ _ fun _ => by simp).trans (runs_broadcastExcept _ _ fun _ => by simp))
    · exact Runs.refl s
  · exact Runs.refl s

theorem runs_expireDueTransaction (s : State) (completes : L.completes) : Runs L s s.expireDueTransaction := by
  unfold State.expireDueTransaction
  split
  · rename_i t active
    split
    · exact (runs_expireTransaction active completes).trans (runs_grantBus _)
    · exact Runs.refl s
  · exact Runs.refl s

theorem runs_expireTags (l : List Tag) (s : State) : Runs L s (l.foldl State.expireTag s) := by
  induction l generalizing s with
  | nil => exact Runs.refl s
  | cons t l ih => exact (runs_expireTag s t).trans (ih _)

theorem runs_expireDue (s : State) (completes : L.completes) : Runs L s s.expireDue :=
  ((runs_expireTags tagIds s).trans (runs_expireDueLease _)).trans (runs_expireDueTransaction _ completes)

/-! ## The store and the bus (R97, R107, R110 to R112) -/

theorem State.current_active {number : TransactionNumber} {b : Transaction} (h : s.current number = some b) :
    s.xbm.bus = .active b := by
  unfold State.current at h
  split at h
  · split at h
    · rename_i active _; cases h; exact active
    · cases h
  · cases h

theorem runs_sendBeat (s : State) (b : Transaction) : Runs L s (s.sendBeat b) := (Move.drive _).runs

theorem runs_beginData {b : Transaction} (active : s.xbm.bus = .active b) : Runs L s (s.beginData b) := by
  have begun : Runs L s (s.setTransaction { b with phase := .data }) := (Move.transaction active rfl).runs
  unfold State.beginData
  simp only []
  split
  · exact begun.trans (runs_sendBeat _ _)
  · exact begun

theorem runs_beatTaken {b : Transaction} (active : s.xbm.bus = .active b) : Runs L s (s.beatTaken b) := by
  unfold State.beatTaken
  split
  · have taken : Runs L s (s.setTransaction { b with beatsDone := b.beatsDone + 1 }) :=
      (Move.transaction active rfl).runs
    exact taken.trans (runs_sendBeat _ _)
  · exact (Move.transaction active rfl).runs

theorem runs_takeReadBeat {b : Transaction} (active : s.xbm.bus = .active b) (data : List Byte) :
    Runs L s (s.takeReadBeat b data) :=
  (Move.transaction active rfl).runs

/-! ## Device reset (R185, R186) -/

theorem runs_deviceReset {input clearing : Bool} {mem : Memory} (h : (input || clearing) = true)
    (hm : s.mem.wf = true → mem.wf = true) (talk : L.talk) (configures : L.config) :
    Runs L s { s.deviceReset with resetInput := input, clearing := clearing, mem := mem } := by
  have before := (runs_resolveAll (L := L) s talk).trans (runs_grantsBefore _ (fun _ => true) Config.grantFirst)
  refine before.trans ((Config.reset input clearing mem h fun wf => hm ?_).runs configures (.inl talk))
  rw [State.grantsBefore_mem, State.resolveAll_mem] at wf
  exact wf

/-! ## Staged values (R11) -/

theorem stagedBase_limits {value : List Byte} {n : Nat} (h : stagedBase value = some n) :
    n % Config.pageSize = 0 ∧ n ≤ Config.bridgeSize - Config.pageSize := by
  unfold stagedBase at h
  simp only [] at h
  split at h
  · rename_i fits
    cases h
    simpa using fits
  · cases h

theorem stagedSize_limits {value : List Byte} {n : Nat} (h : stagedSize value = some n) : isWindowSize n = true := by
  unfold stagedSize at h
  simp only [] at h
  split at h
  · rename_i fits
    cases h
    exact fits
  · cases h

theorem stagedDest_limits {value : List Byte} {d : Resource × Nat} (h : stagedDest value = some d) :
    d.2 % Config.pageSize = 0 ∧ d.2 ≤ d.1.size - Config.pageSize := by
  unfold stagedDest at h
  simp only [] at h
  split at h
  · split at h
    · rename_i fits
      cases h
      simpa using fits
    · cases h
  · cases h

/-! ## Every command -/

/-- Every command is a run of moves that it may make, from where it starts. -/
theorem exec_runs_from {c : Instr} (h : exec c s = .next t) : Runs c.scope (c.start s) t := by
  cases c with
  | powerOn => exact Runs.of_next h rfl (runs_deviceReset (by simp) (fun _ => rfl) rfl rfl)
  | storeClearingComplete =>
    refine Runs.of_next h rfl ((runs_settle s.sendAll).trans ?_)
    split
    · rename_i clearing
      exact (runs_memory fun _ => rfl).trans <|
        (Move.resetInputs (s := { s.atOnce with mem := [] }) _ false (by rw [State.inReset, Bool.or_eq_true]; exact .inr clearing)).runs rfl
    · exact Runs.refl _
  | resetInputAsserted =>
    refine Runs.of_next h rfl ?_
    split
    · rename_i inForce
      have up : s.atOnce.inReset = true := by simpa [State.inReset] using inForce
      have move := Move.resetInputs (s := s.atOnce) true s.atOnce.clearing up
      rw [State.releaseReset, if_pos (by simp [State.inReset])] at move
      exact (runs_atOnce s rfl).trans (move.runs rfl)
    · have started := runs_deviceReset (L := Instr.resetInputAsserted.scope) (s := s) (input := true) (clearing := s.deviceReset.clearing)
        (mem := s.deviceReset.mem) rfl (by rw [State.deviceReset_mem]; exact id) rfl rfl
      exact started
  | resetInputDeasserted =>
    refine Runs.of_next h rfl ((runs_settle s.sendAll).trans ?_)
    split
    · rename_i asserted
      exact (Move.resetInputs (s := s.atOnce) false s.atOnce.clearing (by rw [State.inReset, Bool.or_eq_true]; exact .inl asserted)).runs rfl
    · exact Runs.refl _
  | timebaseUnit => exact Runs.of_next h rfl (((runs_settle s.sendAll).trans (runs_expireDue _ rfl)).trans Move.tick.runs)
  | linkUp p => exact Runs.of_next h rfl ((runs_settle s.sendAll).trans (runs_linkUp rfl))
  | linkDown p cause =>
    refine Runs.of_next h rfl ?_
    split
    · exact runs_atOnce s rfl
    · exact (runs_sendOthers s p rfl).trans ((runs_resolve _ p rfl).trans ((runs_sendLinkFault _ p rfl).trans (runs_dropLink _ p rfl)))
    · exact (runs_sendOthers s p rfl).trans (runs_linkDown _ p rfl)
  | frameArrival p f =>
    refine Runs.of_next h rfl ?_
    split
    · exact runs_atOnce s rfl
    · rename_i up
      exact runs_frameArrival f up rfl
  | resend p => exact Runs.of_next h rfl (runs_take fun u f _ hp => runs_answer (.inr hp) _ (answers_command .resend p))
  | read p =>
    exact Runs.of_next h rfl (runs_take fun u f row hp => runs_request hp (fun formed online =>
      runs_takeRead hp online (Frame.wellFormed_read row formed) (answers_command .read p) rfl) (answers_command .read p))
  | write p =>
    exact Runs.of_next h rfl (runs_take fun u f row hp => runs_request hp (fun formed online =>
      runs_takeWrite hp online (Frame.wellFormed_write row formed) (answers_command .write p) rfl) (answers_command .write p))
  | swap p =>
    exact Runs.of_next h rfl (runs_take fun u f row hp => runs_request hp (fun formed online =>
      runs_takeSwap hp online (Frame.wellFormed_swap row formed) (answers_command .swap p) rfl) (answers_command .swap p))
  | join p => exact Runs.of_next h rfl (runs_take fun u f _ hp => runs_controlWrite hp (fun _ => joinRule_runs hp) (answers_command .join p))
  | leave p => exact Runs.of_next h rfl (runs_take fun u f _ hp => runs_controlWrite hp (fun _ => leaveRule_runs hp) (answers_command .leave p))
  | acquire p =>
    exact Runs.of_next h rfl (runs_take fun u f _ hp => runs_onlineWrite hp (by decide) (fun online => acquireRule_runs hp online) (answers_command .acquire p))
  | renew p =>
    exact Runs.of_next h rfl (runs_take fun u f _ hp => runs_onlineWrite hp (by decide) (fun online => renewRule_runs hp online) (answers_command .renew p))
  | release p => exact Runs.of_next h rfl (runs_take fun u f _ hp => runs_controlWrite hp (fun _ => releaseRule_runs hp) (answers_command .release p))
  | enable p =>
    exact Runs.of_next h rfl (runs_take fun u f _ hp => runs_controlWrite hp (fun _ =>
      commitRule_runs fun w => enableRule_runs hp w rfl) (answers_command .enable p))
  | disable p =>
    exact Runs.of_next h rfl (runs_take fun u f _ hp => runs_controlWrite hp (fun _ =>
      commitRule_runs fun w => disableRule_runs hp w) (answers_command .disable p))
  | purge p =>
    exact Runs.of_next h rfl (runs_take fun u f _ hp => runs_controlWrite hp (fun _ =>
      commitRule_runs fun w => purgeRule_runs hp w) (answers_command .purge p))
  | rights p =>
    exact Runs.of_next h rfl (runs_take fun u f _ hp => runs_controlWrite hp (fun _ =>
      commitRule_runs fun w => rightsRule_runs hp w rfl) (answers_command .rights p))
  | evict p => exact Runs.of_next h rfl (runs_take fun u f _ hp => runs_controlWrite hp (fun _ => evictRule_runs hp _) (answers_command .evict p))
  | notice p => exact Runs.of_next h rfl (runs_take fun u f _ hp => runs_controlWrite hp (fun _ => noticeRule_runs hp _) (answers_command .notice p))
  | evpop p => exact Runs.of_next h rfl (runs_take fun u f _ hp => runs_evpop hp f (answers_command .evpop p))
  | attnen p => exact Runs.of_next h rfl (runs_take fun u f _ hp => runs_controlWrite hp (fun _ => attnenRule_runs hp _) (answers_command .attnen p))
  | wstgHost p =>
    exact Runs.of_next h rfl (runs_take fun u f _ hp => runs_onlineWrite hp (by decide) (fun online =>
      stageRule_runs hp online fun st n staged ok => ⟨by simpa using stagedBase_limits staged, ok.2.1, ok.2.2⟩) (answers_command .wstgHost p))
  | wstgSize p =>
    exact Runs.of_next h rfl (runs_take fun u f _ hp => runs_onlineWrite hp (by decide) (fun online =>
      stageRule_runs hp online fun st n staged ok => ⟨ok.1, by simpa using stagedSize_limits staged, ok.2.2⟩) (answers_command .wstgSize p))
  | wstgDest p =>
    exact Runs.of_next h rfl (runs_take fun u f _ hp => runs_onlineWrite hp (by decide) (fun online =>
      stageRule_runs hp online fun st d staged ok => ⟨ok.1, ok.2.1, by simpa using stagedDest_limits staged⟩) (answers_command .wstgDest p))
  | wstgRights p =>
    exact Runs.of_next h rfl (runs_take fun u f _ hp => runs_onlineWrite hp (by decide) (fun online =>
      stageRule_runs hp online fun st l _ ok => ok) (answers_command .wstgRights p))
  | discardIv p =>
    exact Runs.of_next h rfl (runs_take fun u f _ hp => runs_onlineWrite hp (by decide) (fun online =>
      settingRule_runs fun n low high => ⟨(Config.discardInterval online low high).runs rfl, hp⟩) (answers_command .discardIv p))
  | leaseIv p =>
    exact Runs.of_next h rfl (runs_take fun u f _ hp => runs_onlineWrite hp (by decide) (fun online =>
      settingRule_runs fun n low high => ⟨(Config.leaseInterval online low high).runs rfl, hp⟩) (answers_command .leaseIv p))
  | xbTimeout p =>
    exact Runs.of_next h rfl (runs_take fun u f _ hp => runs_onlineWrite hp (by decide) (fun online =>
      settingRule_runs fun n low high => ⟨(Config.timeout online low high).runs rfl, hp⟩) (answers_command .xbTimeout p))
  | wviewSel p => exact Runs.of_next h rfl (runs_take fun u f _ hp => runs_controlWrite hp (fun _ => wviewSelRule_runs hp _) (answers_command .wviewSel p))
  | tviewSel p => exact Runs.of_next h rfl (runs_take fun u f _ hp => runs_controlWrite hp (fun _ => tviewSelRule_runs hp _) (answers_command .tviewSel p))
  | ctlWrite p => exact Runs.of_next h rfl (runs_take fun u f _ hp => runs_ctlWrite hp f (answers_command .ctlWrite p))
  | lsAccessCompletion =>
    simp only [exec, execLsAccessCompletion] at h
    split at h
    · cases h; exact runs_settle s.sendAll
    · rename_i pos busy
      split at h
      · rename_i inside
        cases h
        exact (runs_settle s.sendAll).trans ((runs_completeAccess busy inside (fun p => (.inl rfl : Instr.answers .lsAccessCompletion p)) rfl).trans (runs_grantStore _))
      · cases h
  | addressTaken n =>
    refine Runs.of_next h rfl ((runs_settle s.sendAll).trans ?_)
    split
    · rename_i b current
      split
      · exact runs_beginData (State.current_active current)
      · exact Runs.refl _
    · exact Runs.refl _
  | writeBeatTaken n =>
    refine Runs.of_next h rfl ((runs_settle s.sendAll).trans ?_)
    split
    · rename_i b current
      split
      · exact runs_beatTaken (State.current_active current)
      · exact Runs.refl _
    · exact Runs.refl _
  | readBeat n data =>
    refine Runs.of_next h rfl ((runs_settle s.sendAll).trans ?_)
    split
    · rename_i b current
      split
      · exact runs_takeReadBeat (State.current_active current) data
      · exact Runs.refl _
    · exact Runs.refl _
  | ending n how =>
    refine Runs.of_next h rfl ((runs_settle s.sendAll).trans ?_)
    split
    · rename_i b current
      exact (runs_completeTransaction (State.current_active current) _ rfl).trans (runs_grantBus _)
    · exact Runs.refl _
  | expansionTimeout => exact Runs.of_next h rfl ((runs_settle s.sendAll).trans (runs_expireDueTransaction _ rfl))
  | discardExpiry t => exact Runs.of_next h rfl ((runs_settle s.sendAll).trans (runs_expireTag _ t))
  | leaseExpiry => exact Runs.of_next h rfl ((runs_settle s.sendAll).trans (runs_expireDueLease _))

theorem start_cases (c : Instr) (s : State) : c.start s = s ∨ c.start s = s.sendAll := by
  unfold Instr.start
  split
  all_goals simp

/-- Every command is a run of moves; those of the configuration are among them for few commands only. -/
theorem exec_runs {c : Instr} (h : exec c s = .next t) : Runs (.all (c.configures = true)) s t := by
  have ran := Runs.weaken (L := c.scope) (L' := .all (c.configures = true)) id (fun _ => trivial) (fun k _ => k.allowed_all _) (exec_runs_from h)
  obtain start | start := start_cases c s
  · rwa [start] at ran
  · rw [start] at ran
    exact (runs_sendAll s trivial).trans ran

end

end Sys2Proof.Machine
end

section
/-! SUPPORT. What a move does to each part of the state, and that a law kept by every move is kept by every step. -/

/- The proofs are checked one after another: each that waits for the kernel holds the stack of a thread. -/
set_option Elab.async false

namespace Sys2Proof.Machine

/-! ## Laws that every move keeps -/

/-- A law that every move keeps, those of the configuration among them, and that says nothing of the waiting commands. -/
structure Kept (I : State → Prop) : Prop where
  move : ∀ {k : MoveKind} s t, I s → Move s k t → I t
  config : ∀ s t, I s → Config s t → I t
  pending : ∀ s l, I s → I { s with pending := l }

section

variable {I : State → Prop} {s t u : State}

theorem Kept.runs {L : Scope} (kept : Kept I) (h : Runs L s t) (hs : I s) : I t :=
  h.keeps (fun _ s t _ hs move => kept.move s t hs move) (fun _ s t _ hs config => kept.config s t hs config) hs

/-- A law that every move keeps holds after every step. -/
theorem Kept.step (kept : Kept I) (hs : I s) (h : Machine.step s = .next t) : I t := by
  unfold Machine.step at h
  split at h
  · cases h
    exact kept.runs (L := .all True) (runs_atOnce s trivial) hs
  · rename_i c rest queued
    exact kept.runs (exec_runs h) (kept.pending s rest hs)

end

/-! ## What a move does to the ports -/

section

variable {s t : State}

theorem State.vacate_ports (s : State) (e : Entry) : (s.vacate e).ports = s.ports := rfl

@[simp] theorem State.leaveIdle_drt (s : State) (r : Resource) : (s.leaveIdle r).drt = s.drt := by cases r <;> rfl
@[simp] theorem State.leaveIdle_pwq (s : State) (r : Resource) : (s.leaveIdle r).pwq = s.pwq := by cases r <;> rfl
@[simp] theorem State.leaveIdle_ports' (s : State) (r : Resource) : (s.leaveIdle r).ports = s.ports := by cases r <;> rfl
@[simp] theorem State.leaveIdle_windows (s : State) (r : Resource) : (s.leaveIdle r).windows = s.windows := by cases r <;> rfl
@[simp] theorem State.leaveIdle_claim (s : State) (r : Resource) : (s.leaveIdle r).claim = s.claim := by cases r <;> rfl
@[simp] theorem State.leaveIdle_mem (s : State) (r : Resource) : (s.leaveIdle r).mem = s.mem := by cases r <;> rfl
@[simp] theorem State.leaveIdle_inReset (s : State) (r : Resource) : (s.leaveIdle r).inReset = s.inReset := by cases r <;> rfl
@[simp] theorem State.leaveIdle_discardInterval (s : State) (r : Resource) :
    (s.leaveIdle r).discardInterval = s.discardInterval := by cases r <;> rfl
@[simp] theorem State.leaveIdle_lastSequence (s : State) (r : Resource) :
    (s.leaveIdle r).lastSequence = s.lastSequence := by cases r <;> rfl
@[simp] theorem State.leaveIdle_timeout (s : State) (r : Resource) :
    (s.leaveIdle r).xbm.timeout = s.xbm.timeout := by cases r <;> rfl
@[simp] theorem State.leaveIdle_pending (s : State) (r : Resource) :
    (s.leaveIdle r).pending = s.pending := by cases r <;> rfl

@[simp] theorem State.window_leaveIdle (s : State) (r : Resource) (w : WindowId) :
    (s.leaveIdle r).window w = s.window w := by cases r <;> rfl

theorem Move.ports_cases {k : MoveKind} (h : Move s k t) :
    (∃ p port', PortMove s p k port' ∧ t = s.modifyPort p (fun _ => port')) ∨ t.ports = s.ports := by
  cases h with
  | port h => exact .inl ⟨_, _, h, rfl⟩
  | grantPosition => exact .inr (State.grantPosition_ports ..)
  | grantStream => exact .inr (State.grantStream_ports ..)
  | leaveIdle => exact .inr (State.leaveIdle_ports' ..)
  | popHead => exact .inr (State.leaveIdle_ports' ..)
  | fetched => exact .inr (State.leaveIdle_ports' ..)
  | refetch => exact .inr (State.leaveIdle_ports' ..)
  | dropFetched => exact .inr (State.leaveIdle_ports' ..)
  | resetInputs => exact .inr (State.releaseReset_ports _)
  | choose | allocate | accept | orphan | vacate | dismiss | disable | grantClaim | dropClaim | transaction | drive
  | memory | tick => exact .inr rfl

/-- A move leaves a port as it was, or is a move of that port. -/
theorem Move.port_cases {k : MoveKind} (h : Move s k t) (q : PortId) : t.port q = s.port q ∨ PortMove s q k (t.port q) := by
  obtain ⟨p, port', move, rfl⟩ | same := h.ports_cases
  · rw [State.port_modifyPort]
    split
    · rename_i same; subst same; exact .inr move
    · exact .inl rfl
  · exact .inl (by rw [State.port, same]; rfl)

/-- A law of a single port that its moves keep is kept by every move. -/
theorem Move.keeps_ports {P : Port → Prop} (keeps : ∀ {k : MoveKind} s p port', PortMove s p k port' → P (s.port p) → P port')
    {k : MoveKind} (h : Move s k t) (hs : ∀ p, P (s.port p)) (q : PortId) : P (t.port q) := by
  obtain same | move := h.port_cases q
  · rw [same]; exact hs q
  · exact keeps s q _ move (hs q)

/-- The ports after a move of the configuration: as they were, or as device reset leaves them. -/
theorem Config.port_cases (h : Config s t) (q : PortId) :
    t.port q = s.port q ∨ t.port q = Port.reset (s.port q).sent := by
  cases h with
  | reset input clearing mem => exact .inr (by simp [State.port, State.clearDevice])
  | discardInterval | leaseInterval | timeout | enable | rights => exact .inl rfl

end

/-! ## What a move does to the windows -/

/-- R5: how the state of a window goes on without an ENABLE. -/
def WindowState.fallsTo (a b : WindowState) : Prop :=
  b = a ∨ (a = .enabled ∧ b ≠ .enabled) ∨ (a = .draining ∧ b = .disabled)

/-- R5, R6: a window after a move: its state may fall, and its reference count may change. -/
def Window.fallsTo (a b : Window) : Prop :=
  b = { a with state := b.state, refCount := b.refCount } ∧ a.state.fallsTo b.state

section

variable {s t : State}

theorem Window.fallsTo_refl (win : Window) : win.fallsTo win := ⟨rfl, .inl rfl⟩

theorem Window.fallsTo_released (win : Window) (n : Nat) : win.fallsTo (win.released n) := by
  refine ⟨rfl, ?_⟩
  rw [Window.released]
  simp only []
  split
  · rename_i draining; exact .inr (.inr ⟨draining.1, rfl⟩)
  · exact .inl rfl

theorem Window.fallsTo_counted (win : Window) (n : Nat) : win.fallsTo { win with refCount := n } := ⟨rfl, .inl rfl⟩

theorem Window.fallsTo_disabled {win : Window} (h : win.state = .enabled) :
    win.fallsTo { win with state := win.disabledState } := by
  refine ⟨rfl, .inr (.inl ⟨h, ?_⟩)⟩
  rw [Window.disabledState]
  split <;> simp

/-- A window that one update makes fall falls, and so every other one. -/
theorem State.fallsTo_modifyWindow {w : WindowId} {f : Window → Window} (h : (s.window w).fallsTo (f (s.window w)))
    (v : WindowId) : (s.window v).fallsTo ((s.modifyWindow w f).window v) := by
  rw [State.window_modifyWindow]
  split
  · rename_i same; rw [same]; exact h
  · exact Window.fallsTo_refl _

theorem State.fallsTo_takeRef (s : State) (w v : WindowId) : (s.window v).fallsTo ((s.takeRef w).window v) :=
  State.fallsTo_modifyWindow (f := fun win => { win with refCount := win.refCount + 1 }) (Window.fallsTo_counted _ _) v

theorem State.fallsTo_unref (s : State) (w v : WindowId) : (s.window v).fallsTo ((s.unref w 1).window v) :=
  State.fallsTo_modifyWindow (f := fun win => win.released 1) (Window.fallsTo_released _ _) v

theorem State.fallsTo_vacate (s : State) (e : Entry) (w : WindowId) : (s.window w).fallsTo ((s.vacate e).window w) := by
  rw [State.window_vacate]
  split
  · exact Window.fallsTo_released _ _
  · exact Window.fallsTo_refl _

theorem Move.window_fallsTo {k : MoveKind} (h : Move s k t) (w : WindowId) : (s.window w).fallsTo (t.window w) := by
  have same : ∀ {u : State}, u.windows = s.windows → (s.window w).fallsTo (u.window w) := fun eq => by
    rw [State.window, State.window, eq]; exact Window.fallsTo_refl _
  cases h with
  | allocate => exact State.fallsTo_takeRef s _ w
  | accept => exact State.fallsTo_takeRef s _ w
  | vacate => exact s.fallsTo_vacate _ w
  | dismiss =>
    rw [State.window_dismiss]
    split
    · exact Window.fallsTo_released _ _
    · exact Window.fallsTo_refl _
  | disable h => exact State.fallsTo_modifyWindow (Window.fallsTo_disabled h) w
  | popHead =>
    rw [State.window_leaveIdle]
    exact State.fallsTo_unref s _ w
  | dropFetched => rw [State.window_leaveIdle]; exact s.fallsTo_vacate _ w
  | grantPosition => exact same (State.grantPosition_windows ..)
  | grantStream => exact same (State.grantStream_windows ..)
  | leaveIdle => exact same (State.leaveIdle_windows ..)
  | fetched => exact same (State.leaveIdle_windows ..)
  | refetch => exact same (State.leaveIdle_windows ..)
  | resetInputs => exact same (State.releaseReset_windows _)
  | port | choose | orphan | grantClaim | dropClaim | transaction | drive | memory | tick => exact same rfl

theorem WindowState.fallsTo.not_disabled {a b : WindowState} (h : a.fallsTo b) (hb : b ≠ .disabled) : a ≠ .disabled := by
  obtain rfl | ⟨rfl, -⟩ | ⟨rfl, rfl⟩ := h
  · exact hb
  · simp
  · exact absurd rfl hb

theorem WindowState.fallsTo.enabled {a b : WindowState} (h : a.fallsTo b) (hb : b = .enabled) : a = .enabled := by
  obtain rfl | ⟨rfl, -⟩ | ⟨rfl, rfl⟩ := h
  · exact hb
  · rfl
  · cases hb

end

/-! ## What a move does to the settings -/

section

variable {s t : State}

/-- R43, R121, R153: without a move of the configuration the settings stand. -/
theorem Move.settings {k : MoveKind} (h : Move s k t) :
    t.discardInterval = s.discardInterval ∧ t.claim.interval = s.claim.interval ∧ t.xbm.timeout = s.xbm.timeout := by
  cases h with
  | grantPosition => simp
  | grantStream =>
    rename_i stream _ _
    refine ⟨by simp, by simp, ?_⟩
    unfold State.grantStream
    cases stream <;> simp only [] <;> split <;> simp [State.startTransaction]
  | leaveIdle => simp
  | popHead | fetched | refetch | dropFetched => exact ⟨State.leaveIdle_discardInterval .., congrArg Claim.interval (State.leaveIdle_claim ..), State.leaveIdle_timeout ..⟩
  | resetInputs =>
    refine ⟨by simp, by simp, ?_⟩
    unfold State.releaseReset
    split <;> rfl
  | port | choose | allocate | accept | orphan | vacate | dismiss | disable | grantClaim | dropClaim | transaction | drive
  | memory | tick => exact ⟨rfl, rfl, rfl⟩

theorem Move.mem_wf {k : MoveKind} (h : Move s k t) (wf : s.mem.wf = true) : t.mem.wf = true := by
  cases h with
  | memory mem hm => exact hm wf
  | grantPosition => rw [State.grantPosition_mem]; exact wf
  | grantStream => rw [State.grantStream_mem]; exact wf
  | leaveIdle | popHead | fetched | refetch | dropFetched => rw [State.leaveIdle_mem]; exact wf
  | resetInputs => rw [State.releaseReset_mem]; exact wf
  | port | choose | allocate | accept | orphan | vacate | dismiss | disable | grantClaim | dropClaim | transaction | drive
  | tick => exact wf

/-- The waiting commands are the queue's own: no move touches them. -/
theorem Move.pending {k : MoveKind} (h : Move s k t) : t.pending = s.pending := by
  cases h with
  | grantPosition => simp
  | grantStream => simp
  | leaveIdle | popHead | fetched | refetch | dropFetched => exact State.leaveIdle_pending ..
  | resetInputs => rw [State.releaseReset_pending]
  | port | choose | allocate | accept | orphan | vacate | dismiss | disable | grantClaim | dropClaim | transaction | drive
  | memory | tick => rfl

theorem Config.pending (h : Config s t) : t.pending = s.pending := by
  cases h <;> rfl

end

/-! ## What a move does to the two tables -/

/-- What becomes of the Delayed Request Table and the Posted Write Queue in a move. -/
inductive TableMove (s : State) : List Entry → List PostedWrite → Prop
  | same : TableMove s s.drt s.pwq
  | startDrain {h : PostedWrite} {rest : List PostedWrite} (queued : s.pwq = h :: rest) :
      TableMove s s.drt ({ h with inFlight := true } :: rest)
  | startFetch {r : Resource} {e : Entry} (found : s.drt.find? (Entry.eligible r) = some e)
      (requests : s.fetchRequests r = true) : TableMove s (s.setPhase e.tag (.fetching none)).drt s.pwq
  | allocate {t : Tag} {p : PortId} {kind : EntryKind} {addr count : Nat} {w : WindowId} (online : s.online p = true)
      (fresh : s.freeTag = some t) (unmatched : s.matching p kind addr count = none) (admitted : s.admits p = true)
      (reach : s.reaches addr count w) (swap : kind ≠ .read → count = 8) :
      TableMove s (s.allocate t p kind addr count w).drt s.pwq
  | accept {p : PortId} {addr : Nat} {data : List Byte} {w : WindowId} (online : s.online p = true)
      (reach : s.reaches addr data.length w) (room : s.queueRoom p = true) :
      TableMove s (s.accept p addr data w).drt (s.accept p addr data w).pwq
  | orphan {e : Entry} (he : e ∈ s.drt) (h : e.phase.fetches = true) : TableMove s (s.orphan e.tag).drt s.pwq
  | vacate {e : Entry} (he : e ∈ s.drt) (h : e.phase.fetches = false) : TableMove s (s.vacate e).drt s.pwq
  | dismiss (P : Entry → Bool) : TableMove s (dismissedList s.drt P) s.pwq
  | popHead {h : PostedWrite} {rest : List PostedWrite} (queued : s.pwq = h :: rest) :
      TableMove s (s.drt.map Entry.lowered) rest
  | fetched {e : Entry} (result : FetchResult) (he : e ∈ s.drt) (h : e.phase = .fetching none) :
      TableMove s (s.setPhase e.tag (.ready result s.discardTime)).drt s.pwq
  | refetch {e : Entry} {n : Nat} (he : e ∈ s.drt) (h : e.phase = .fetching (some n)) :
      TableMove s (s.setPhase e.tag (.waiting n)).drt s.pwq
  | tick : TableMove s (s.drt.map Entry.tick) s.pwq

section

variable {s t : State}

theorem State.startDrain_tables (s : State) : TableMove s s.startDrain.drt s.startDrain.pwq := by
  unfold State.startDrain
  split
  · exact .same
  · rename_i queued; exact .startDrain queued

theorem State.startFetch_tables {r : Resource} (requests : s.fetchRequests r = true) :
    TableMove s (s.startFetch r).drt (s.startFetch r).pwq := by
  unfold State.startFetch
  split
  · rename_i found; exact .startFetch found requests
  · exact .same

theorem State.grantPosition_tables {pos : Position} (requests : s.positionRequests pos = true) :
    TableMove s (s.grantPosition pos).drt (s.grantPosition pos).pwq := by
  have under : ∀ {d q}, TableMove { s with store := some pos, lastPosition := pos } d q → TableMove s d q := by
    intro d q h
    cases h with
    | same => exact .same
    | startDrain queued => exact .startDrain queued
    | startFetch found requests => exact .startFetch found requests
    | allocate online fresh unmatched admitted reach swap =>
      exact .allocate (s := s) online fresh unmatched admitted reach swap
    | accept online reach room => exact .accept (s := s) online reach room
    | orphan he h => exact .orphan (s := s) he h
    | vacate he h => exact .vacate (s := s) he h
    | dismiss P => exact .dismiss (s := s) P
    | popHead queued => exact .popHead (s := s) queued
    | fetched result he h => exact .fetched (s := s) result he h
    | refetch he h => exact .refetch (s := s) he h
    | tick => exact .tick (s := s)
  cases pos with
  | port p => exact .same
  | drain => exact under (State.startDrain_tables _)
  | fetch => exact under (State.startFetch_tables (s := { s with store := some .fetch, lastPosition := .fetch }) requests)

theorem State.grantStream_tables {stream : Stream} (requests : s.streamRequests stream = true) :
    TableMove s (s.grantStream stream).drt (s.grantStream stream).pwq := by
  unfold State.grantStream
  cases stream with
  | drain =>
    simp only []
    split
    · exact s.startDrain_tables
    · exact .same
  | fetch =>
    simp only []
    split
    · exact State.startFetch_tables requests
    · exact .same

theorem State.mem_of_fetchedEntry {r : Resource} {e : Entry} (found : s.fetchedEntry r = some e) : e ∈ s.drt :=
  List.mem_of_find?_eq_some found

theorem Move.tables {k : MoveKind} (h : Move s k t) : TableMove s t.drt t.pwq := by
  cases h with
  | grantPosition free up requests => exact State.grantPosition_tables requests
  | grantStream idle requests => exact State.grantStream_tables requests
  | allocate online fresh unmatched admitted reach swap => exact .allocate online fresh unmatched admitted reach swap
  | accept online reach room => exact .accept online reach room
  | orphan he h => exact .orphan he h
  | vacate he h => exact .vacate he (by revert h; rename_i e; cases e.phase <;> simp [Phase.idle, Phase.fetches])
  | dismiss P => exact .dismiss P
  | leaveIdle => rw [State.leaveIdle_drt, State.leaveIdle_pwq]; exact .same
  | popHead busy queued => rw [State.leaveIdle_drt, State.leaveIdle_pwq]; exact .popHead queued
  | fetched result busy found h =>
    rw [State.leaveIdle_drt, State.leaveIdle_pwq]; exact .fetched result (State.mem_of_fetchedEntry found) h
  | refetch busy found h => rw [State.leaveIdle_drt, State.leaveIdle_pwq]; exact .refetch (State.mem_of_fetchedEntry found) h
  | dropFetched busy found h =>
    rw [State.leaveIdle_drt, State.leaveIdle_pwq]
    exact .vacate (State.mem_of_fetchedEntry found) (by rw [h]; rfl)
  | tick => exact .tick
  | resetInputs => rw [State.releaseReset_drt, State.releaseReset_pwq]; exact .same
  | port | choose | disable | grantClaim | dropClaim | transaction | drive | memory => exact .same

/-- The tables after a move of the configuration: as they were, or empty. -/
theorem Config.tables (h : Config s t) : (t.drt = s.drt ∧ t.pwq = s.pwq) ∨ (t.drt = [] ∧ t.pwq = []) := by
  cases h with
  | reset => exact .inr ⟨rfl, rfl⟩
  | discardInterval | leaseInterval | timeout | enable | rights => exact .inl ⟨rfl, rfl⟩

end

end Sys2Proof.Machine
end

section
/-! SUPPORT. The laws of the ports, the windows, the store and the settings, kept by every move; and who configures. -/

/- The proofs are checked one after another: each that waits for the kernel holds the stack of a thread. -/
set_option Elab.async false

namespace Sys2Proof.Machine

/-! ## The records of ports -/

section

variable {s : State} {p : PortId} {port' : Port}

@[simp] theorem Port.offer_staging (port : Port) (r : Record) : (port.offer r).staging = port.staging := by
  rw [Port.offer_frame]

@[simp] theorem Port.offer_attnEnable (port : Port) (r : Record) : (port.offer r).attnEnable = port.attnEnable := by
  rw [Port.offer_frame]

theorem Staging.fieldsOk_empty : Staging.empty.fieldsOk := ⟨nofun, nofun, nofun⟩

theorem PortMove.keeps_staging {k : MoveKind} (h : PortMove s p k port') (ok : (s.port p).staging.fieldsOk) : port'.staging.fieldsOk := by
  cases h with
  | send => rw [Port.send_staging]; exact ok
  | offer r => rw [Port.offer_staging]; exact ok
  | stage st online h => exact h ok
  | join | detach | unlinkTorn => exact Staging.fieldsOk_empty
  | answer | read | undrop | receive | linkUp | unlink | linkFault | pop | wviewSel | tviewSel | attn => exact ok

/-- R130: what a port whose response leaves keeps of its buffer. -/
theorem Port.bufferOk_send {port : Port} (ok : port.bufferOk) : port.send.bufferOk := by
  obtain ⟨length, held, offline⟩ := ok
  cases decided : port.decided with
  | none => rw [Port.send_of_none decided]; exact ⟨length, held, offline⟩
  | some r =>
    simp only [Port.send, decided]
    exact ⟨by simp only [List.length_tail]; omega, nofun, fun off => ⟨by rw [(offline off).1]; rfl, rfl⟩⟩

theorem PortMove.keeps_buffer {k : MoveKind} (h : PortMove s p k port') (ok : (s.port p).bufferOk) : port'.bufferOk := by
  obtain ⟨length, held, offline⟩ := ok
  cases h with
  | send => exact Port.bufferOk_send ⟨length, held, offline⟩
  | offer r => rw [Port.offer_frame]; exact ⟨length, held, offline⟩
  | answer r h =>
    refine ⟨length, fun _ => ?_, fun off => ?_⟩
    · exact h.elim held fun engaged => engaged.2
    · refine absurd off (h.elim (fun inHand => ?_) fun engaged => engaged.1)
      intro off
      rw [(offline off).2] at inHand
      cases inHand
  | read h => exact ⟨length, fun _ => h.2, fun off => absurd off h.1⟩
  | receive f h room =>
    refine ⟨?_, fun _ => by simp, fun off => absurd off h⟩
    simp only [List.length_append, List.length_singleton]
    omega
  | linkUp => exact ⟨Nat.zero_le _, nofun, nofun⟩
  | join => exact ⟨length, held, nofun⟩
  | detach => exact ⟨length, held, nofun⟩
  | unlink | unlinkTorn => exact ⟨Nat.zero_le _, nofun, fun _ => ⟨rfl, rfl⟩⟩
  | undrop | linkFault | pop | stage | wviewSel | tviewSel | attn => exact ⟨length, held, offline⟩

/-- R162: the records of a queue, OVERFLOW at its newest end or nowhere. -/
def lawfulQueue (queue : List Record) : Prop :=
  ∃ l : List Record, (∀ r ∈ l, r.ordinary) ∧ l.length ≤ Config.recordLimit ∧
    (queue = l ∨ ∃ n, 1 ≤ n ∧ n ≤ Config.overflowLimit ∧ queue = l ++ [.overflow n])

theorem recordsOk_iff (queue : List Record) :
    recordsOk queue = true ↔ ∃ l : List Record, (∀ r ∈ l, r.ordinary) ∧
      (queue = l ∨ ∃ n, 1 ≤ n ∧ n ≤ Config.overflowLimit ∧ queue = l ++ [.overflow n]) := by
  induction queue with
  | nil => exact ⟨fun _ => ⟨[], nofun, .inl rfl⟩, fun _ => rfl⟩
  | cons r rest ih =>
    by_cases ordinary : r.ordinary
    · have step : recordsOk (r :: rest) = recordsOk rest := by
        cases r with
        | overflow n => exact absurd rfl (ordinary n)
        | _ => cases rest <;> rfl
      rw [step, ih]
      constructor
      · rintro ⟨l, all, rfl | ⟨n, low, high, rfl⟩⟩
        · exact ⟨r :: rest, List.forall_mem_cons.mpr ⟨ordinary, all⟩, .inl rfl⟩
        · exact ⟨r :: l, List.forall_mem_cons.mpr ⟨ordinary, all⟩, .inr ⟨n, low, high, rfl⟩⟩
      · rintro ⟨l, all, rfl | ⟨n, low, high, same⟩⟩
        · exact ⟨rest, fun x hx => all x (List.mem_cons_of_mem r hx), .inl rfl⟩
        · cases l with
          | nil => cases same; exact absurd rfl (ordinary n)
          | cons x l =>
            cases same
            exact ⟨l, fun y hy => all y (List.mem_cons_of_mem _ hy), .inr ⟨n, low, high, rfl⟩⟩
    · obtain ⟨n, rfl⟩ : ∃ n, r = .overflow n := by simpa [Record.ordinary] using ordinary
      cases rest with
      | nil =>
        rw [recordsOk, Bool.and_eq_true, decide_eq_true_iff, decide_eq_true_iff]
        constructor
        · exact fun ⟨low, high⟩ => ⟨[], nofun, .inr ⟨n, low, high, rfl⟩⟩
        · rintro ⟨l, all, rfl | ⟨m, low, high, same⟩⟩
          · exact absurd rfl (all _ List.mem_cons_self n)
          · cases l with
            | nil => cases same; exact ⟨low, high⟩
            | cons x l => simp at same
      | cons x rest =>
        refine ⟨fun no => by simp [recordsOk] at no, ?_⟩
        rintro ⟨l, all, rfl | ⟨m, low, high, same⟩⟩
        · exact absurd rfl (all _ List.mem_cons_self n)
        · cases l with
          | nil => simp at same
          | cons y l =>
            obtain ⟨rfl, -⟩ := List.cons.inj same
            exact absurd rfl (all _ List.mem_cons_self n)

theorem Port.queueOk_iff (port : Port) : port.queueOk = true ↔ lawfulQueue port.queue := by
  rw [Port.queueOk, Bool.and_eq_true, recordsOk_iff]
  constructor
  · rintro ⟨⟨l, all, rest⟩, length⟩
    refine ⟨l, all, ?_, rest⟩
    simp only [Bool.or_eq_true, decide_eq_true_iff, Bool.and_eq_true, beq_iff_eq] at length
    obtain same | ⟨n, -, -, same⟩ := rest
    · rw [same] at length
      obtain short | ⟨-, last⟩ := length
      · exact short
      · split at last
        · rename_i m hm
          exact absurd rfl (all _ (List.mem_of_getLast? hm) m)
        · cases last
    · rw [same, List.length_append, List.length_singleton] at length
      omega
  · rintro ⟨l, all, length, rest⟩
    refine ⟨⟨l, all, rest⟩, ?_⟩
    simp only [Bool.or_eq_true, decide_eq_true_iff, Bool.and_eq_true, beq_iff_eq]
    obtain same | ⟨n, -, -, same⟩ := rest
    · exact .inl (by rw [same]; exact length)
    · rw [same]
      simp only [List.length_append, List.length_singleton, List.getLast?_append, List.getLast?_singleton,
        Option.some_or, and_true]
      omega

/-- R161, R162: an offered record leaves a lawful queue lawful. -/
theorem lawfulQueue_append {queue : List Record} {r : Record} (ordinary : r.ordinary) (h : lawfulQueue queue) :
    lawfulQueue (appendRecord queue r) := by
  obtain ⟨l, all, length, rfl | ⟨n, low, high, rfl⟩⟩ := h
  · obtain ⟨ahead, n, same, -⟩ | ⟨-, appended⟩ := appendRecord_cases queue r
    · exact absurd rfl (all (.overflow n) (by rw [same]; simp) n)
    · rw [appended]
      split
      · rename_i room
        refine ⟨queue ++ [r], ?_, ?_, .inl rfl⟩
        · intro x hx
          obtain hx | hx := List.mem_append.mp hx
          · exact all x hx
          · rw [List.mem_singleton.mp hx]; exact ordinary
        · rw [List.length_append, List.length_singleton]; omega
      · exact ⟨queue, all, length, .inr ⟨1, le_rfl, by decide, rfl⟩⟩
  · obtain ⟨ahead, m, same, appended⟩ | ⟨no, -⟩ := appendRecord_cases (l ++ [.overflow n]) r
    · obtain ⟨rfl, last⟩ := List.append_inj' same rfl
      cases last
      rw [appended]
      refine ⟨l, all, length, .inr ⟨_, ?_, ?_, rfl⟩⟩
      · split <;> omega
      · split <;> omega
    · exact absurd (by simp) (no n)

theorem lawfulQueue_tail {queue : List Record} (h : lawfulQueue queue) : lawfulQueue queue.tail := by
  obtain ⟨l, all, length, rest⟩ := h
  have shorter : l.tail.length ≤ Config.recordLimit := by rw [List.length_tail]; omega
  have fewer : ∀ r ∈ l.tail, r.ordinary := fun r hr => all r (List.mem_of_mem_tail hr)
  refine ⟨l.tail, fewer, shorter, ?_⟩
  obtain rfl | ⟨n, low, high, rfl⟩ := rest
  · exact .inl rfl
  · cases l with
    | nil => exact .inl rfl
    | cons x l => exact .inr ⟨n, low, high, rfl⟩

theorem Port.lawfulQueue_offer {port : Port} {r : Record} (ordinary : r.ordinary) (h : lawfulQueue port.queue) :
    lawfulQueue (port.offer r).queue := by
  unfold Port.offer
  split
  · exact lawfulQueue_append ordinary h
  · exact h

theorem PortMove.keeps_queue {k : MoveKind} (h : PortMove s p k port') (ok : (s.port p).queueOk = true) : port'.queueOk = true := by
  rw [Port.queueOk_iff] at ok ⊢
  have empty : lawfulQueue [] := ⟨[], nofun, Nat.zero_le _, .inl rfl⟩
  cases h with
  | send => rw [Port.send_queue]; exact ok
  | offer r ordinary => exact Port.lawfulQueue_offer ordinary ok
  | pop => exact lawfulQueue_tail ok
  | detach | unlinkTorn => exact empty
  | join | stage | answer | read | undrop | receive | linkUp | unlink | linkFault | wviewSel | tviewSel | attn => exact ok

/-- R169: an update keeps OVERFLOW in the set, and record kinds alone. -/
theorem updateKinds_ok {old set clear : BitVec 16} (ho : old &&& ~~~Config.allKinds = 0) (hs : kindsOnly set = true) :
    (updateKinds old set clear).getLsbD 10 = true ∧ updateKinds old set clear &&& ~~~Config.allKinds = 0 := by
  rw [kindsOnly, beq_iff_eq] at hs
  refine ⟨by simp [updateKinds, Config.overflowKind], BitVec.eq_of_getLsbD_eq fun i hi => ?_⟩
  have overflow : Config.overflowKind &&& ~~~Config.allKinds = 0 := by decide
  have bit : ∀ {x : BitVec 16}, x &&& ~~~Config.allKinds = 0 → x.getLsbD i = true → Config.allKinds.getLsbD i = true := by
    intro x hx hbit
    have := congrArg (fun y => BitVec.getLsbD y i) hx
    simpa [hi, hbit] using this
  simp only [updateKinds, BitVec.getLsbD_and, BitVec.getLsbD_or, BitVec.getLsbD_not, hi, decide_true, Bool.true_and,
    BitVec.ofNat_eq_ofNat, BitVec.getLsbD_zero]
  by_cases all : Config.allKinds.getLsbD i = true
  · simp [all]
  · rw [Bool.eq_false_iff.mpr (mt (bit ho) all), Bool.eq_false_iff.mpr (mt (bit hs) all),
      Bool.eq_false_iff.mpr (mt (bit overflow) all)]
    simp

/-- R168: OVERFLOW is in an enable set, which holds record kinds alone. -/
def Port.attnOk (port : Port) : Prop :=
  port.attnEnable.getLsbD 10 = true ∧ port.attnEnable &&& ~~~Config.allKinds = 0

theorem allKinds_ok : Config.allKinds.getLsbD 10 = true ∧ Config.allKinds &&& ~~~Config.allKinds = 0 := by decide

theorem PortMove.keeps_attn {k : MoveKind} (h : PortMove s p k port') (ok : (s.port p).attnOk) : port'.attnOk := by
  cases h with
  | send => rw [Port.attnOk, Port.send_attnEnable]; exact ok
  | offer r => rw [Port.attnOk, Port.offer_attnEnable]; exact ok
  | join => exact allKinds_ok
  | attn set clear hs hc => exact updateKinds_ok ok.2 hs
  | detach | unlinkTorn | pop | stage | answer | read | undrop | receive | linkUp | unlink | linkFault | wviewSel
  | tviewSel => exact ok

end

/-- A law of the record of a port that its moves keep, and that holds after device reset. -/
theorem kept_of_portMove {P : Port → Prop} (keeps : ∀ {k : MoveKind} s p port', PortMove s p k port' → P (s.port p) → P port')
    (reset : ∀ sent, P (Port.reset sent)) : Kept (fun s => ∀ p, P (s.port p)) where
  move _ _ hs h := h.keeps_ports keeps hs
  config s t hs h q := by
    obtain same | cleared := h.port_cases q
    · rw [same]; exact hs q
    · rw [cleared]; exact reset _
  pending _ _ hs := hs

theorem kept_buffersOk : Kept State.buffersOk :=
  kept_of_portMove (P := Port.bufferOk) (fun _ _ _ h => h.keeps_buffer) fun _ => ⟨Nat.zero_le _, nofun, fun _ => ⟨rfl, rfl⟩⟩

theorem kept_eventQueuesOk : Kept State.eventQueuesOk :=
  kept_of_portMove (P := fun port => port.queueOk = true) (fun _ _ _ h => h.keeps_queue) fun _ => rfl

theorem kept_attnEnablesOk : Kept State.attnEnablesOk :=
  kept_of_portMove (P := Port.attnOk) (fun _ _ _ h => h.keeps_attn) fun _ => allKinds_ok

/-! ## The holder of the claim (R145) -/

section

variable {s t : State} {p : PortId} {port' : Port}

/-- A port leaves ONLINE only when the claim is not its own. -/
theorem PortMove.online_of_holds {k : MoveKind} (h : PortMove s p k port') (online : s.online p = true) (holds : s.holds p = true) :
    port'.online = true := by
  have attached : ∀ {st}, (s.port p).state = st → st ≠ .online → False := by
    intro st hst ne
    rw [State.online, Port.online, hst] at online
    exact ne (beq_iff_eq.mp online)
  cases h with
  | send => rw [Port.send_online]; exact online
  | offer r => rw [Port.offer_online]; exact online
  | linkUp offered =>
    rw [State.linkOffered, Bool.and_eq_true, beq_iff_eq] at offered
    exact (attached offered.1 (by simp)).elim
  | join => rfl
  | detach _ forgets => rw [forgets.2] at holds; cases holds
  | unlinkTorn _ _ forgets => rw [forgets.2] at holds; cases holds
  | unlink _ state => exact (attached state (by simp)).elim
  | pop | stage | answer | read | undrop | receive | linkFault | wviewSel | tviewSel | attn => exact online

theorem State.holderOnline_iff : s.holderOnline ↔ ∀ p, s.holds p = true → s.online p = true := by
  unfold State.holderOnline State.holds
  cases s.claim.held with
  | none => simp
  | some h => simp

/-- R147 to R151: what a move does to the claim. -/
theorem Move.claim_cases {k : MoveKind} (h : Move s k t) :
    t.claim = s.claim ∨ t.claim = s.claim.tick ∨ t.claim = { s.claim with held := none } ∨
      ∃ p, s.online p = true ∧ t.claim =
        { s.claim with held := some { holder := p, remaining := s.claim.fullLease, due := false } } := by
  cases h with
  | grantClaim online => exact .inr (.inr (.inr ⟨_, online, rfl⟩))
  | dropClaim => exact .inr (.inr (.inl rfl))
  | tick => exact .inr (.inl rfl)
  | grantPosition => exact .inl (State.grantPosition_claim ..)
  | grantStream => exact .inl (State.grantStream_claim ..)
  | leaveIdle | popHead | fetched | refetch | dropFetched => exact .inl (State.leaveIdle_claim ..)
  | resetInputs => exact .inl (State.releaseReset_claim _)
  | port | choose | allocate | accept | orphan | vacate | dismiss | disable | transaction | drive | memory => exact .inl rfl

theorem Claim.tick_held (c : Claim) : c.tick.held.map Holding.holder = c.held.map Holding.holder := by
  rw [Claim.tick]
  cases c.held with
  | none => rfl
  | some h => simp only [Option.map_some, Holding.tick]; split <;> rfl

theorem State.holds_iff_map : s.holds p = true ↔ s.claim.held.map Holding.holder = some p := by
  unfold State.holds
  cases s.claim.held with
  | none => simp
  | some h => simp

theorem kept_holderOnline : Kept State.holderOnline where
  move s t hs h := by
    rw [State.holderOnline_iff] at hs ⊢
    intro p holds
    by_cases same : t.claim = s.claim
    · rw [State.holds_iff_map, same, ← State.holds_iff_map] at holds
      have online := hs p holds
      obtain port | move := h.port_cases p
      · rw [State.online, port]; exact online
      · exact move.online_of_holds online holds
    · have ports : t.ports = s.ports := by
        obtain ⟨p, port', -, rfl⟩ | ports := h.ports_cases
        · exact absurd rfl same
        · exact ports
      have online_eq : ∀ q, t.online q = s.online q := fun q => by rw [State.online, State.port, ports]; rfl
      rw [online_eq]
      rw [State.holds_iff_map] at holds
      obtain claim | claim | claim | ⟨q, online, claim⟩ := h.claim_cases
      · exact absurd claim same
      · rw [claim, Claim.tick_held, ← State.holds_iff_map] at holds
        exact hs p holds
      · rw [claim] at holds; cases holds
      · rw [claim] at holds
        cases holds
        exact online
  config s t hs h := by
    cases h with
    | reset => exact fun h hh => by cases hh
    | discardInterval | leaseInterval | timeout | enable | rights => exact hs
  pending _ _ hs := hs

end

/-- Settles O56: each of the four laws is kept by every move. -/
theorem portsStayLegal : Obligations.PortsStayLegal :=
  fun _ _ buffers queues attn holder h =>
    ⟨kept_buffersOk.step buffers h, kept_eventQueuesOk.step queues h, kept_attnEnablesOk.step attn h,
      kept_holderOnline.step holder h⟩

/-! ## The store and the windows (R94, R3, R16) -/

theorem kept_storeCanonical : Kept State.storeCanonical where
  move _ _ wf h := h.mem_wf wf
  config s t wf h := by
    cases h with
    | reset input clearing mem _ hm => exact hm wf
    | discardInterval | leaseInterval | timeout | enable | rights => exact wf
  pending _ _ wf := wf

section

variable {a b : Window}

theorem Window.fallsTo.fieldsOk (h : a.fallsTo b) (ok : a.fieldsOk) : b.fieldsOk := by
  rw [h.1]; exact ok

theorem Window.fallsTo.overlaps {c d : Window} (h : a.fallsTo b) (h' : c.fallsTo d) : b.overlaps d = a.overlaps c := by
  rw [h.1, h'.1]; rfl

theorem Window.overlaps_comm (a b : Window) : a.overlaps b = b.overlaps a := by
  rw [Window.overlaps, Window.overlaps, Bool.and_comm]

theorem Window.fieldsOk_reset : Window.reset.fieldsOk := by decide

/-- R15: the window that a staging record describes meets its limits, as its fields do. -/
theorem Staging.toWindow_fieldsOk {st : Staging} {win : Window} (ok : st.fieldsOk) (h : st.toWindow = some win) :
    win.fieldsOk := by
  obtain ⟨base, size, dest⟩ := ok
  unfold Staging.toWindow at h
  split at h
  · rename_i b n r d rights hb hn hd hr
    split at h
    · rename_i fits
      cases h
      simp only [stagedFits, Bool.and_eq_true, beq_iff_eq, decide_eq_true_iff] at fits
      exact ⟨size n hn, fits.1.1, fits.1.2, (base b hb).2, fits.2⟩
    · cases h
  · cases h

theorem Staging.toWindow_enabled {st : Staging} {win : Window} (h : st.toWindow = some win) : win.state = .enabled := by
  unfold Staging.toWindow at h
  split at h
  · split at h
    · cases h; rfl
    · cases h
  · cases h

end

theorem kept_stagingsOk : Kept (fun s => ∀ p, (s.port p).staging.fieldsOk) :=
  kept_of_portMove (P := fun port => port.staging.fieldsOk) (fun _ _ _ h => h.keeps_staging)
    fun _ => Staging.fieldsOk_empty

/-- The windows after device reset. -/
theorem State.window_clearDevice (s : State) (w : WindowId) : s.clearDevice.window w = Window.reset := by
  simp [State.window, State.clearDevice]

theorem kept_windowFieldsOk : Kept State.windowFieldsOk where
  move s t ok h := ⟨fun w => (h.window_fallsTo w).fieldsOk (ok.1 w), kept_stagingsOk.move s t ok.2 h⟩
  config s t ok h := by
    refine ⟨fun w => ?_, kept_stagingsOk.config s t ok.2 h⟩
    cases h with
    | @enable p x win disabled staged apart =>
      rw [State.window_modifyWindow]
      split
      · exact (Staging.toWindow_fieldsOk (ok.2 p) staged : win.fieldsOk)
      · exact ok.1 w
    | rights list h =>
      rw [State.window_modifyWindow]
      split
      · exact ok.1 _
      · exact ok.1 w
    | reset input clearing mem =>
      have cleared := s.window_clearDevice w
      exact cleared ▸ Window.fieldsOk_reset
    | discardInterval | leaseInterval | timeout => exact ok.1 w
  pending _ _ ok := ok

/-- R15 step 3: a window that does not overlap the table overlaps no window of it that is not DISABLED. -/
theorem State.overlaps_of_overlapsTable {s : State} {win : Window} (apart : s.overlapsTable win = false) {w : WindowId}
    (h : (s.window w).state ≠ .disabled) : win.overlaps (s.window w) = false := by
  have all := List.any_eq_false.mp apart w (mem_windowIds w)
  simpa [h] using all

theorem kept_windowsDisjoint : Kept State.windowsDisjoint where
  move s t apart h v w ne hv hw := by
    have v' := h.window_fallsTo v
    have w' := h.window_fallsTo w
    rw [v'.overlaps w']
    exact apart v w ne (v'.2.not_disabled hv) (w'.2.not_disabled hw)
  config s t apart h v w ne hv hw := by
    cases h with
    | @enable p x win disabled staged free =>
      rw [State.window_modifyWindow] at hv hw
      rw [State.window_modifyWindow, State.window_modifyWindow]
      by_cases hvx : v = x
      · have hwx : w ≠ x := fun hwx => ne (hvx.trans hwx.symm)
        rw [if_neg hwx] at hw
        rw [if_pos hvx, if_neg hwx]
        exact (State.overlaps_of_overlapsTable free hw : win.overlaps (s.window w) = false)
      · rw [if_neg hvx] at hv
        rw [if_neg hvx]
        by_cases hwx : w = x
        · rw [if_pos hwx, Window.overlaps_comm]
          exact (State.overlaps_of_overlapsTable free hv : win.overlaps (s.window v) = false)
        · rw [if_neg hwx] at hw
          rw [if_neg hwx]
          exact apart v w ne hv hw
    | @rights x list h =>
      have same : ∀ y, (s.modifyWindow x (fun win => { win with rights := list })).window y =
          { s.window y with rights := ((s.modifyWindow x (fun win => { win with rights := list })).window y).rights } := by
        intro y
        rw [State.window_modifyWindow]
        split
        · rename_i hy; rw [hy]
        · rfl
      rw [same v] at hv
      rw [same w] at hw
      rw [same v, same w]
      exact apart v w ne hv hw
    | reset input clearing mem =>
      have cleared := s.window_clearDevice v
      exact absurd (congrArg Window.state cleared) hv
    | discardInterval | leaseInterval | timeout => exact apart v w ne hv hw
  pending _ _ apart := apart

/-- Settles O52: each of the three laws is kept by every move. -/
theorem storeAndWindowsStayLegal : Obligations.StoreAndWindowsStayLegal :=
  fun _ _ canonical fields apart h =>
    ⟨kept_storeCanonical.step canonical h, kept_windowFieldsOk.step fields h, kept_windowsDisjoint.step apart h⟩

end Sys2Proof.Machine
end

section
/-! SUPPORT. The grants and the records of ports: what a grant sees of a port is its read in hand and whether its access was
dropped. And the statements about where a command stops, who configures, and the settings, timers and device reset. -/

/- The proofs are checked one after another: each that waits for the kernel holds the stack of a thread. -/
set_option Elab.async false

namespace Sys2Proof.Machine

/-! ## Grants under other port records -/

/-- R99: two records of a port that request the same of the store. -/
def Port.sameRead (a b : Port) : Prop :=
  a.readInHand = b.readInHand ∧ a.dropped = b.dropped

/-- The state with other records of its ports. -/
def State.withPorts (s : State) (ports : Vector Port 4) : State :=
  { s with ports := ports }

section

variable {s t : State} {ports : Vector Port 4}

@[simp] theorem State.withPorts_ports (s : State) : s.withPorts s.ports = s := rfl

/-- A state that differs in the records of its ports alone. -/
theorem State.eq_withPorts (h : t = { s with ports := t.ports }) : t = s.withPorts t.ports := h

theorem State.withPorts_sendAll (s : State) : s.sendAll = s.withPorts s.sendAll.ports := rfl

theorem State.port_withPorts (s : State) (ports : Vector Port 4) (p : PortId) : (s.withPorts ports).port p = ports[p] := rfl

theorem Port.sameRead_send (port : Port) : port.send.sameRead port :=
  ⟨Port.send_readInHand port, Port.send_dropped port⟩

theorem State.positionRequests_withPorts (same : ∀ p : PortId, (ports[p]).sameRead (s.port p)) (pos : Position) :
    (s.withPorts ports).positionRequests pos = s.positionRequests pos := by
  cases pos with
  | port p =>
    simp only [State.positionRequests, State.port_withPorts, (same p).1, (same p).2]
    rfl
  | drain => rfl
  | fetch => rfl

theorem State.grantPosition_withPorts (s : State) (ports : Vector Port 4) (pos : Position) :
    (s.withPorts ports).grantPosition pos = (s.grantPosition pos).withPorts ports := by
  cases pos with
  | port p => rfl
  | drain =>
    simp only [State.grantPosition, State.startDrain, State.withPorts]
    split <;> rfl
  | fetch =>
    simp only [State.grantPosition, State.startFetch, State.withPorts]
    split <;> rfl

theorem State.grantStore_withPorts (same : ∀ p : PortId, (ports[p]).sameRead (s.port p)) :
    (s.withPorts ports).grantStore = s.grantStore.withPorts ports := by
  have requests : (s.withPorts ports).positionRequests = s.positionRequests :=
    funext (State.positionRequests_withPorts same)
  unfold State.grantStore
  rw [requests]
  simp only [show (s.withPorts ports).store = s.store from rfl, show (s.withPorts ports).inReset = s.inReset from rfl,
    show (s.withPorts ports).lastPosition = s.lastPosition from rfl]
  split
  · rfl
  · split
    · exact State.grantPosition_withPorts ..
    · rfl

theorem State.grantStream_withPorts (s : State) (ports : Vector Port 4) (stream : Stream) :
    (s.withPorts ports).grantStream stream = (s.grantStream stream).withPorts ports := by
  cases stream with
  | drain =>
    simp only [State.grantStream, State.withPorts]
    split
    · simp only [State.startDrain]; split <;> rfl
    · rfl
  | fetch =>
    simp only [State.grantStream, State.withPorts]
    split
    · simp only [State.startFetch]; split <;> rfl
    · rfl

theorem State.grantBus_withPorts (s : State) (ports : Vector Port 4) :
    (s.withPorts ports).grantBus = s.grantBus.withPorts ports := by
  unfold State.grantBus
  simp only [show (s.withPorts ports).xbm = s.xbm from rfl, show (s.withPorts ports).drainRequests = s.drainRequests from rfl,
    show (s.withPorts ports).fetchRequests = s.fetchRequests from rfl]
  split
  · split
    · exact State.grantStream_withPorts ..
    · rfl
  · rfl

theorem State.grantStore_sameRead (same : ∀ p : PortId, (ports[p]).sameRead (s.port p)) (p : PortId) :
    (ports[p]).sameRead (s.grantStore.port p) := by
  rw [State.port, State.grantStore_ports]; exact same p

theorem State.settle_withPorts (same : ∀ p : PortId, (ports[p]).sameRead (s.port p)) :
    (s.withPorts ports).settle = s.settle.withPorts ports := by
  rw [State.settle, State.grantStore_withPorts same, State.grantBus_withPorts, State.settle]

/-- What the responses that leave change is nothing to the grants. -/
theorem State.sendAll_sameRead (s : State) (p : PortId) : (s.sendAll.ports[p]).sameRead (s.port p) := by
  have sent := State.port_sendAll s p
  rw [State.port] at sent
  rw [sent]
  exact Port.sameRead_send _

theorem State.atOnce_eq (s : State) : s.atOnce = s.settle.withPorts s.sendAll.ports := by
  rw [State.atOnce, State.withPorts_sendAll, State.settle_withPorts s.sendAll_sameRead]; rfl

end

/-! ## Where a command stops (R95) -/

section

variable {s t : State}

theorem Runs.pending {L : Scope} (h : Runs L s t) : t.pending = s.pending :=
  h.keeps (I := fun u => u.pending = s.pending) (fun _ _ _ _ same move => move.pending.trans same)
    (fun _ _ _ _ same config => config.pending.trans same) rfl

/-- Every command but the completion of an access answers a next state. -/
theorem exec_next {c : Instr} (h : c ≠ .lsAccessCompletion) (s : State) : ∃ t, exec c s = .next t := by
  cases c with
  | lsAccessCompletion => exact absurd rfl h
  | _ => exact ⟨_, rfl⟩

/-- The completion of an access answers a next state, or stops at an access outside the store. -/
theorem exec_lsAccessCompletion_cases (s : State) :
    (∃ t, exec .lsAccessCompletion s = .next t) ∨
      ∃ pos, s.atOnce.store = some pos ∧ s.atOnce.accessInStore pos = false ∧
        exec .lsAccessCompletion s = .fault .storeRange := by
  simp only [exec, execLsAccessCompletion]
  split
  · exact .inl ⟨_, rfl⟩
  · rename_i pos busy
    split
    · exact .inl ⟨_, rfl⟩
    · rename_i outside
      exact .inr ⟨pos, busy, Bool.eq_false_iff.mpr outside, rfl⟩

theorem State.accessRange_withPorts {ports : Vector Port 4} (same : ∀ p : PortId, (ports[p]).sameRead (s.port p))
    (pos : Position) : (s.withPorts ports).accessRange pos = s.accessRange pos := by
  cases pos with
  | port p =>
    simp only [State.accessRange, State.port_withPorts, (same p).1, (same p).2]
  | drain => rfl
  | fetch => rfl

theorem State.settle_sameRead (p : PortId) : (s.sendAll.ports[p]).sameRead (s.settle.port p) := by
  rw [State.port_settle]; exact s.sendAll_sameRead p

end

/-- Settles O2: all else that a command does is a run of moves, none of which touches the queue of commands. -/
theorem onlyAStoreCompletionCanStop : Obligations.OnlyAStoreCompletionCanStop := by
  intro c s
  have keeps : ∀ {t}, exec c s = .next t → t.pending = s.pending := fun h => (exec_runs h).pending
  by_cases completion : c = .lsAccessCompletion
  · subst completion
    obtain ⟨t, h⟩ | ⟨pos, busy, outside, stops⟩ := exec_lsAccessCompletion_cases s
    · exact .inl ⟨t, h, keeps h⟩
    · refine .inr ⟨rfl, stops, pos, ?_, ?_⟩
      · rw [State.atOnce_eq] at busy; exact busy
      · rw [State.accessInStore, State.atOnce_eq, State.accessRange_withPorts fun _ => State.settle_sameRead _,
          decide_eq_false_iff_not] at outside
        omega
  · obtain ⟨t, h⟩ := exec_next completion s
    exact .inl ⟨t, h, keeps h⟩

/-! ## Who configures (R14, R152) -/

section

variable {s t : State} {p : PortId}

/-- R2: what a window that is configured keeps of its ranges, its resource and its rights; and it is not ENABLED anew. -/
def Window.configuredAs (a b : Window) : Prop :=
  b.bridgeBase = a.bridgeBase ∧ b.size = a.size ∧ b.resource = a.resource ∧ b.destBase = a.destBase ∧
    b.rights = a.rights ∧ (b.state = .enabled → a.state = .enabled)

theorem Window.fallsTo.configuredAs {a b : Window} (h : a.fallsTo b) : a.configuredAs b := by
  refine ⟨?_, ?_, ?_, ?_, ?_, h.2.enabled⟩ <;> rw [h.1]

theorem Window.configuredAs.trans {a b c : Window} (h : a.configuredAs b) (h' : b.configuredAs c) : a.configuredAs c := by
  obtain ⟨base, size, resource, dest, rights, enabled⟩ := h
  obtain ⟨base', size', resource', dest', rights', enabled'⟩ := h'
  exact ⟨base'.trans base, size'.trans size, resource'.trans resource, dest'.trans dest, rights'.trans rights,
    fun h => enabled (enabled' h)⟩

/-- R14: the configuration as it was. -/
def State.configuredAs (s t : State) : Prop :=
  (∀ w, (s.window w).configuredAs (t.window w)) ∧ t.discardInterval = s.discardInterval ∧
    t.claim.interval = s.claim.interval ∧ t.xbm.timeout = s.xbm.timeout

/-- Without a move of the configuration it stands. -/
theorem Runs.configuredAs {L : Scope} (no : ¬L.config) (h : Runs L s t) : s.configuredAs t := by
  refine h.keeps (I := s.configuredAs) (fun _ u v _ hu move => ?_) (fun hc => absurd hc no)
    ⟨fun w => (Window.fallsTo_refl _).configuredAs, rfl, rfl, rfl⟩
  obtain ⟨windows, discard, lease, timeout⟩ := hu
  obtain ⟨discard', lease', timeout'⟩ := move.settings
  exact ⟨fun w => (windows w).trans (move.window_fallsTo w).configuredAs, discard'.trans discard, lease'.trans lease,
    timeout'.trans timeout⟩

/-- R152: a claim-required write of a port that does not hold the claim is answered, and nothing else. -/
theorem runs_take_unheld {L : Scope} {row : TakeRow} {r : Reg} {rule : State → Frame → Verdict}
    (required : r.claimRequired = true) (lacks : s.holds p = false) (talk : L.talk) (answers : L.answers p) :
    Runs L s (s.take p row (fun s f => s.controlWrite p r (f.payload .ctlWrite) (rule s f))) := by
  obtain ⟨f, taken, ofRow, made⟩ | ⟨-, made⟩ := s.take_cases p row
    (fun s f => s.controlWrite p r (f.payload .ctlWrite) (rule s f))
  · rw [made]
    refine ((runs_sendAll s talk).trans (runs_grantsBefore s.sendAll (fun _ => false) Config.grantFirst)).trans ?_
    have engaged : ((s.sendAll.grantsBefore (fun _ => false)).port p).engaged := by
      rw [State.port_grantsBefore]; exact State.engaged_of_frameToTake taken
    have lacks' : (s.sendAll.grantsBefore (fun _ => false)).holds p = false := by
      rw [State.holds_grantsBefore]; exact lacks
    obtain ⟨reason, refusal⟩ : ∃ reason,
        (s.sendAll.grantsBefore (fun _ => false)).writeRefusal p r (f.payload .ctlWrite) = some reason := by
      refine Option.ne_none_iff_exists'.mp fun none => ?_
      obtain ⟨-, holds, -⟩ := State.writeRefusal_eq_none_iff.mp none
      rw [holds required] at lacks'
      cases lacks'
    rw [State.controlWrite_of_refused refusal]
    exact runs_refuse engaged reason answers
  · rw [made]
    exact (runs_sendAll s talk).trans (runs_settle _)

/-- R14, R152: every command that may configure is a claim-required write, or starts device reset. -/
theorem configures_cases {c : Instr} (h : c.configures = true) :
    c = .powerOn ∨ c = .resetInputAsserted ∨
      ∃ p, (c = .enable p ∨ c = .rights p ∨ c = .discardIv p ∨ c = .leaseIv p ∨ c = .xbTimeout p) ∧
        ∀ s t, s.holds p = false → exec c s = .next t → Runs (.all False) s t := by
  cases c with
  | powerOn => exact .inl rfl
  | resetInputAsserted => exact .inr (.inl rfl)
  | enable p =>
    exact .inr (.inr ⟨p, .inl rfl, fun s t lacks h => Runs.of_next h rfl (runs_take_unheld rfl lacks trivial trivial)⟩)
  | rights p =>
    exact .inr (.inr ⟨p, .inr (.inl rfl), fun s t lacks h => Runs.of_next h rfl (runs_take_unheld rfl lacks trivial trivial)⟩)
  | discardIv p =>
    exact .inr (.inr ⟨p, .inr (.inr (.inl rfl)), fun s t lacks h => Runs.of_next h rfl (runs_take_unheld rfl lacks trivial trivial)⟩)
  | leaseIv p =>
    exact .inr (.inr ⟨p, .inr (.inr (.inr (.inl rfl))), fun s t lacks h =>
      Runs.of_next h rfl (runs_take_unheld rfl lacks trivial trivial)⟩)
  | xbTimeout p =>
    exact .inr (.inr ⟨p, .inr (.inr (.inr (.inr rfl))), fun s t lacks h =>
      Runs.of_next h rfl (runs_take_unheld rfl lacks trivial trivial)⟩)
  | _ => cases h

end

/-- Settles O51: no move but those of the configuration changes it, and the commands that have such moves are claim-required
writes, refused without the claim, or start device reset. -/
theorem onlyTheHolderConfigures : Obligations.OnlyTheHolderConfigures := by
  intro c s t h changed
  have differs : ¬s.configuredAs t := by
    rintro ⟨windows, discard, lease, timeout⟩
    obtain ⟨w, window⟩ | other | other | other := changed
    · obtain ⟨base, size, resource, dest, rights, enabled⟩ := windows w
      obtain h | h | h | h | h | ⟨now, before⟩ := window
      · exact h base
      · exact h size
      · exact h resource
      · exact h dest
      · exact h rights
      · exact before (enabled now)
    · exact other discard
    · exact other lease
    · exact other timeout
  have configures : c.configures = true := by
    by_contra no
    exact differs ((exec_runs h).configuredAs no)
  obtain rfl | rfl | ⟨p, which, unheld⟩ := configures_cases configures
  · exact .inl rfl
  · exact .inr (.inl rfl)
  · refine .inr (.inr ⟨p, ?_, which⟩)
    by_contra lacks
    exact differs ((unheld s t (Bool.eq_false_iff.mpr lacks) h).configuredAs id)

/-! ## Settings, timers and device reset (R43, R44, R113, R123, R144, R145) -/

section

variable {s t : State}

theorem settingsOk_reset : (1 ≤ Config.discardIntervalReset ∧ Config.discardIntervalReset ≤ 4095) ∧
    (1 ≤ Config.leaseIntervalReset ∧ Config.leaseIntervalReset ≤ 1000) ∧
    (1 ≤ Config.busTimeoutReset ∧ Config.busTimeoutReset ≤ 1023) := by decide

theorem kept_settingsOk : Kept State.settingsOk where
  move s t ok h := by
    obtain ⟨discard, lease, timeout⟩ := h.settings
    rw [State.settingsOk, discard, lease, timeout]
    exact ok
  config s t ok h := by
    obtain ⟨discard, lease, timeout⟩ := ok
    cases h with
    | discardInterval _ low high => exact ⟨⟨low, high⟩, lease, timeout⟩
    | leaseInterval _ low high => exact ⟨discard, ⟨low, high⟩, timeout⟩
    | timeout _ low high => exact ⟨discard, lease, ⟨low, high⟩⟩
    | reset => exact settingsOk_reset
    | enable | rights => exact ⟨discard, lease, timeout⟩
  pending _ _ ok := ok

/-- R44: an entry holds no more than the longest discard interval. -/
def Entry.timerBounded (e : Entry) : Prop :=
  ∀ r n, e.phase = .ready r n → n ≤ 65520

theorem Entry.timerBounded_lowered {e : Entry} (h : e.timerBounded) : e.lowered.timerBounded := by
  intro r n ready
  refine h r n ?_
  simp only [Entry.lowered, Phase.lowered] at ready
  split at ready
  · cases ready
  · cases ready
  · exact ready

theorem Entry.timerBounded_tick {e : Entry} (h : e.timerBounded) : e.tick.timerBounded := by
  intro r n ready
  unfold Entry.tick at ready
  split at ready
  · rename_i r' m phase
    simp only [Phase.ready.injEq] at ready
    have := h r' m phase
    omega
  · exact h r n ready

theorem Entry.timerBounded_overlapCheck {e : Entry} (h : e.timerBounded) (r : Resource) (dest count occupancy : Nat) :
    (e.overlapCheck r dest count occupancy).timerBounded := by
  intro x n ready
  unfold Entry.overlapCheck at ready
  split at ready
  · unfold Phase.overtaken at ready
    simp only [] at ready
    split at ready <;> cases ready
  · exact h x n ready

/-- An entry that a phase has been given to, or another one. -/
theorem State.forall_setPhase {P : Entry → Prop} {tag : Tag} {phase : Phase} (all : ∀ e ∈ s.drt, P e)
    (new : ∀ e ∈ s.drt, P { e with phase := phase }) : ∀ e ∈ (s.setPhase tag phase).drt, P e := by
  intro x hx
  obtain ⟨e, he, rfl⟩ := State.mem_setPhase.mp hx
  split
  · exact new e he
  · exact all e he

theorem forall_dismissedList {P : Entry → Prop} {Q : Entry → Bool} {d : List Entry} (all : ∀ e ∈ d, P e)
    (new : ∀ e ∈ d, P e.orphaned) : ∀ e ∈ dismissedList d Q, P e := by
  intro x hx
  rw [dismissedList] at hx
  obtain ⟨e, he, rfl | rfl, -⟩ := mem_dismissed hx
  · exact all x he
  · exact new e he

theorem forall_vacate {P : Entry → Prop} {e : Entry} (all : ∀ e ∈ s.drt, P e) : ∀ x ∈ (s.vacate e).drt, P x :=
  fun x hx => all x (List.mem_filter.mp hx).1

theorem TableMove.timersBounded {d : List Entry} {q : List PostedWrite} (h : TableMove s d q)
    (interval : s.discardInterval ≤ 4095) (all : ∀ e ∈ s.drt, e.timerBounded) : ∀ e ∈ d, e.timerBounded := by
  have running : ∀ {phase : Phase}, (∀ r n, phase ≠ .ready r n) → ∀ e ∈ s.drt, ({ e with phase := phase } : Entry).timerBounded :=
    fun not _ _ r n ready => absurd ready (not r n)
  cases h with
  | same | startDrain => exact all
  | startFetch => exact State.forall_setPhase all (running nofun)
  | allocate =>
    intro e he
    obtain he | he := List.mem_append.mp he
    · exact all e he
    · rw [List.mem_singleton.mp he]; exact nofun
  | accept =>
    intro e he
    obtain ⟨x, hx, rfl⟩ := List.mem_map.mp he
    exact Entry.timerBounded_overlapCheck (all x hx) _ _ _ _
  | orphan => exact State.forall_setPhase all (running nofun)
  | vacate => exact forall_vacate all
  | dismiss => exact forall_dismissedList all (running nofun)
  | popHead => exact List.forall_mem_map.mpr fun e he => Entry.timerBounded_lowered (all e he)
  | fetched =>
    refine State.forall_setPhase all fun e he r n ready => ?_
    cases ready
    rw [State.discardTime, Config.discardUnit]
    omega
  | refetch => exact State.forall_setPhase all (running nofun)
  | tick => exact List.forall_mem_map.mpr fun e he => Entry.timerBounded_tick (all e he)

/-- R145: a lease that runs. -/
def Holding.leaseOk (h : Holding) : Prop :=
  1 ≤ h.remaining ∧ h.remaining ≤ 1000000 ∧ (h.due = true → h.remaining = 1)

theorem Holding.leaseOk_tick {h : Holding} (ok : h.leaseOk) : h.tick.leaseOk := by
  obtain ⟨low, high, due⟩ := ok
  unfold Holding.tick
  split
  · exact ⟨low, high, fun _ => by simp only []; omega⟩
  · refine ⟨by simp only []; omega, by simp only []; omega, fun isDue => ?_⟩
    have := due isDue
    omega

theorem Move.leaseOk {k : MoveKind} (h : Move s k t) (interval : 1 ≤ s.claim.interval ∧ s.claim.interval ≤ 1000)
    (ok : ∀ h ∈ s.claim.held, h.leaseOk) : ∀ h ∈ t.claim.held, h.leaseOk := by
  obtain claim | claim | claim | ⟨p, -, claim⟩ := h.claim_cases
  · rw [claim]; exact ok
  · rw [claim, Claim.tick]
    intro h hh
    obtain ⟨h', held, rfl⟩ := Option.map_eq_some_iff.mp hh
    exact Holding.leaseOk_tick (ok h' held)
  · rw [claim]; exact nofun
  · rw [claim]
    intro h hh
    cases hh
    rw [Holding.leaseOk, Claim.fullLease]
    simp only []
    exact ⟨by omega, by omega, nofun⟩

/-- R108, R112: what a move does to the bus: it stands, a transaction starts in it, goes on or ends, or device reset ends. -/
theorem Move.bus_cases {k : MoveKind} (h : Move s k t) :
    (t.xbm.bus = s.xbm.bus ∧ t.inReset = s.inReset) ∨
      (s.xbm.bus = .idle ∧ ∃ b, t.xbm.bus = .active b ∧ b.remaining = s.xbm.timeout) ∨
      (∃ b, s.xbm.bus = .active b ∧ (t.xbm.bus = .idle ∨ ∃ b', t.xbm.bus = .active b' ∧ b'.remaining ≤ b.remaining)) ∨
      (s.inReset = true ∧ t.inReset = false ∧ t.xbm.bus = .idle) := by
  have ended : ∀ {r : Resource} {u : State}, s.busy r → u.xbm = s.xbm → u.inReset = s.inReset →
      ((u.leaveIdle r).xbm.bus = s.xbm.bus ∧ (u.leaveIdle r).inReset = s.inReset) ∨
      (s.xbm.bus = .idle ∧ ∃ b, (u.leaveIdle r).xbm.bus = .active b ∧ b.remaining = s.xbm.timeout) ∨
      (∃ b, s.xbm.bus = .active b ∧ ((u.leaveIdle r).xbm.bus = .idle ∨
        ∃ b', (u.leaveIdle r).xbm.bus = .active b' ∧ b'.remaining ≤ b.remaining)) ∨
      (s.inReset = true ∧ (u.leaveIdle r).inReset = false ∧ (u.leaveIdle r).xbm.bus = .idle) := by
    intro r u busy same inReset
    cases r with
    | ls => exact .inl ⟨congrArg Xbm.bus same, inReset⟩
    | xb => obtain ⟨b, active⟩ := busy; exact .inr (.inr (.inl ⟨b, active, .inl rfl⟩))
  cases h with
  | grantPosition => exact .inl ⟨congrArg Xbm.bus (State.grantPosition_xbm ..), by simp [State.inReset]⟩
  | @grantStream stream idle requests =>
    unfold State.grantStream
    cases stream with
    | drain =>
      simp only []
      split
      · exact .inr (.inl ⟨idle, _, rfl, by simp⟩)
      · exact .inl ⟨rfl, rfl⟩
    | fetch =>
      simp only []
      split
      · exact .inr (.inl ⟨idle, _, rfl, by simp⟩)
      · exact .inl ⟨rfl, rfl⟩
  | leaveIdle busy => exact ended busy rfl rfl
  | popHead busy => exact ended busy.busy rfl rfl
  | fetched _ busy => exact ended busy.busy rfl rfl
  | refetch busy => exact ended busy.busy rfl rfl
  | dropFetched busy => exact ended busy.busy rfl rfl
  | @transaction b b' active same =>
    refine .inr (.inr (.inl ⟨b, active, .inr ⟨b', rfl, ?_⟩⟩))
    rw [same]
  | tick =>
    rw [State.tick]
    simp only []
    cases bus : s.xbm.bus with
    | active b => exact .inr (.inr (.inl ⟨b, rfl, .inr ⟨_, rfl, Nat.sub_le ..⟩⟩))
    | idle => exact .inl ⟨rfl, rfl⟩
    | reset => exact .inl ⟨rfl, rfl⟩
  | resetInputs input clearing up =>
    unfold State.releaseReset
    split
    · rename_i still; exact .inl ⟨rfl, still.trans up.symm⟩
    · rename_i down
      exact .inr (.inr (.inr ⟨up, Bool.eq_false_iff.mpr down, rfl⟩))
  | port | choose | allocate | accept | orphan | vacate | dismiss | disable | grantClaim | dropClaim | drive | memory =>
    exact .inl ⟨rfl, rfl⟩

theorem kept_timersBounded : Kept (fun s => s.settingsOk ∧ s.timersBounded) where
  move s t ok h := by
    obtain ⟨settings, entries, lease, transaction⟩ := ok
    refine ⟨kept_settingsOk.move s t settings h, ?_, ?_, fun b active => ?_⟩
    · exact h.tables.timersBounded settings.1.2 entries
    · exact h.leaseOk settings.2.1 lease
    · obtain ⟨same, -⟩ | ⟨-, b', now, timeout⟩ | ⟨a, before, idle | ⟨b', now, less⟩⟩ | ⟨-, -, idle⟩ := h.bus_cases
      · exact transaction b (same.symm.trans active)
      · cases now.symm.trans active
        rw [timeout]; exact settings.2.2.2
      · cases idle.symm.trans active
      · cases now.symm.trans active
        exact less.trans (transaction a before)
      · cases idle.symm.trans active
  config s t ok h := by
    refine ⟨kept_settingsOk.config s t ok.1 h, ?_⟩
    obtain ⟨-, entries, lease, transaction⟩ := ok
    cases h with
    | reset => exact ⟨nofun, nofun, nofun⟩
    | discardInterval | leaseInterval | timeout | enable | rights => exact ⟨entries, lease, transaction⟩
  pending _ _ ok := ok

/-! ### Device reset (R123, R144) -/

/-- R99, R144: what device reset leaves quiet. -/
def State.quiet (s : State) : Prop :=
  (∀ p : PortId, (s.port p).state = .offline) ∧ s.store = none ∧ s.drt = [] ∧ s.pwq = [] ∧ s.claim = Claim.reset

theorem State.not_online_of_quiet (h : s.quiet) (p : PortId) : s.online p = false := by
  rw [State.online, Port.online, h.1 p]; rfl

theorem Move.inReset_eq {k : MoveKind} (h : Move s k t) : t.inReset = s.inReset ∨ s.inReset = true := by
  cases h with
  | resetInputs _ _ up => exact .inr up
  | grantPosition => simp [State.inReset]
  | grantStream => simp [State.inReset]
  | leaveIdle | popHead | fetched | refetch | dropFetched => exact .inl (State.leaveIdle_inReset ..)
  | port | choose | allocate | accept | orphan | vacate | dismiss | disable | grantClaim | dropClaim | transaction | drive
  | memory | tick => exact .inl rfl

theorem PortMove.offline_of_quiet {p : PortId} {port' : Port} {k : MoveKind} (h : PortMove s p k port') (quiet : s.quiet)
    (up : s.inReset = true) : port'.state = .offline := by
  have offline := quiet.1 p
  have absent := State.not_online_of_quiet quiet p
  cases h with
  | send => rw [Port.send_state]; exact offline
  | offer => rw [Port.offer_state]; exact offline
  | linkUp offered => simp [State.linkOffered, up] at offered
  | join attached => exact absurd offline attached
  | detach online => rw [absent] at online; cases online
  | unlinkTorn | unlink => rfl
  | answer | read | undrop | receive | linkFault | pop | stage | wviewSel | tviewSel | attn => exact offline

/-- While device reset is in force, no move but those of ports does anything to what it leaves quiet. -/
theorem Move.quiet {k : MoveKind} (h : Move s k t) (quiet : s.quiet) (up : s.inReset = true) (reset : s.xbm.bus = .reset) :
    t.quiet := by
  obtain ⟨offline, free, list, queue, claim⟩ := quiet
  have absent := State.not_online_of_quiet ⟨offline, free, list, queue, claim⟩
  have idle : ∀ {r : Resource}, s.busy r → False := by
    intro r busy
    cases r with
    | ls => exact busy free
    | xb => obtain ⟨b, active⟩ := busy; rw [reset] at active; cases active
  have missing : ∀ {e : Entry}, e ∈ s.drt → False := fun he => by rw [list] at he; cases he
  have stand : ∀ {u : State}, u.ports = s.ports → u.store = s.store → u.drt = s.drt → u.pwq = s.pwq → u.claim = s.claim →
      u.quiet := fun ports store drt pwq claim' =>
    ⟨fun p => by rw [State.port, ports]; exact offline p, store.trans free, drt.trans list, pwq.trans queue, claim'.trans claim⟩
  cases h with
  | port move =>
    refine ⟨fun q => ?_, free, list, queue, claim⟩
    rw [State.port_modifyPort]
    split
    · exact move.offline_of_quiet ⟨offline, free, list, queue, claim⟩ up
    · exact offline q
  | grantPosition _ down => rw [up] at down; cases down
  | grantStream idle => rw [reset] at idle; cases idle
  | allocate online => rw [absent] at online; cases online
  | accept online => rw [absent] at online; cases online
  | orphan he => exact (missing he).elim
  | vacate he => exact (missing he).elim
  | dismiss P named =>
    refine ⟨offline, free, ?_, queue, claim⟩
    rw [State.dismiss_drt, list]; rfl
  | grantClaim online => rw [absent] at online; cases online
  | dropClaim => exact ⟨offline, free, list, queue, by simp only [claim]; rfl⟩
  | leaveIdle busy => exact (idle busy).elim
  | popHead busy => exact (idle busy.busy).elim
  | fetched _ busy => exact (idle busy.busy).elim
  | refetch busy => exact (idle busy.busy).elim
  | dropFetched busy => exact (idle busy.busy).elim
  | tick => exact ⟨offline, free, by simp [State.tick, list], queue, by simp [State.tick, claim]; rfl⟩
  | resetInputs => exact stand (by simp) (by simp) (by simp) (by simp) (by simp)
  | choose | disable | transaction | drive | memory => exact stand rfl rfl rfl rfl rfl

theorem kept_resetQuiet : Kept State.resetQuiet where
  move s t ok h := by
    obtain ⟨iff, quiet⟩ := ok
    by_cases up : s.inReset = true
    · have quiet' := h.quiet (quiet up) up (iff.mp up)
      refine ⟨?_, fun _ => quiet'⟩
      obtain ⟨bus, inReset⟩ | ⟨idle, -⟩ | ⟨b, active, -⟩ | ⟨-, down, idle⟩ := h.bus_cases
      · rw [bus, inReset]; exact iff
      · rw [iff.mp up] at idle; cases idle
      · rw [iff.mp up] at active; cases active
      · rw [down, idle]; simp
    · have down : t.inReset = false := by
        obtain same | up' := h.inReset_eq
        · rw [same]; exact Bool.eq_false_iff.mpr up
        · exact absurd up' up
      refine ⟨?_, fun up' => by rw [down] at up'; cases up'⟩
      have notReset : s.xbm.bus ≠ .reset := mt iff.mpr up
      rw [down]
      refine ⟨nofun, fun reset => ?_⟩
      obtain ⟨same, -⟩ | ⟨-, b, active, -⟩ | ⟨b, -, idle | ⟨b', active, -⟩⟩ | ⟨-, -, idle⟩ := h.bus_cases
      · exact absurd (same.symm.trans reset) notReset
      · rw [reset] at active; cases active
      · rw [reset] at idle; cases idle
      · rw [reset] at active; cases active
      · rw [reset] at idle; cases idle
  config s t ok h := by
    cases h with
    | reset input clearing mem up => 
      refine ⟨⟨fun _ => rfl, fun _ => up⟩, fun _ => ⟨fun p => ?_, rfl, rfl, rfl, rfl⟩⟩
      simp [State.port, State.clearDevice, Port.reset]
    | leaseInterval online =>
      refine ⟨ok.1, fun up => ?_⟩
      rw [State.not_online_of_quiet (ok.2 up)] at online
      cases online
    | discardInterval | timeout | enable | rights => exact ok
  pending _ _ ok := ok

end

/-- Settles O57: the laws of the settings, of the timers and of device reset are kept by every move. -/
theorem settingsAndResetStayLegal : Obligations.SettingsAndResetStayLegal := by
  intro s t settings timers quiet h
  obtain ⟨settings', timers'⟩ := kept_timersBounded.step ⟨settings, timers⟩ h
  exact ⟨settings', timers', kept_resetQuiet.step quiet h⟩

end Sys2Proof.Machine
end

section
/-! SUPPORT. The laws of the Delayed Request Table and of the Posted Write Queue, kept by every move. -/

/- The proofs are checked one after another: each that waits for the kernel holds the stack of a thread. -/
set_option Elab.async false

namespace Sys2Proof.Machine

/-! ## Entries in a list with distinct tags (R28) -/

section

variable {s : State} {e x : Entry} {phase : Phase}

/-- An entry after the entry of a tag has been given a phase: that one, or one that was there. -/
theorem State.mem_setPhase_of_mem (distinct : s.tagsDistinct) (he : e ∈ s.drt) (hx : x ∈ (s.setPhase e.tag phase).drt) :
    x = { e with phase := phase } ∨ x ∈ s.drt := by
  obtain ⟨y, hy, rfl⟩ := State.mem_setPhase.mp hx
  split
  · rename_i tag
    rw [State.eq_of_tag distinct hy he tag]
    exact .inl rfl
  · exact .inr hy

/-- An entry and the others of its list. -/
theorem perm_cons_filter {d : List Entry} (distinct : d.Pairwise (fun a b => a.tag ≠ b.tag)) (he : e ∈ d) :
    d.Perm (e :: d.filter (fun x => x.tag != e.tag)) := by
  induction d with
  | nil => cases he
  | cons a d ih =>
    obtain ⟨others, distinct⟩ := List.pairwise_cons.mp distinct
    obtain rfl | he := List.mem_cons.mp he
    · have stay : d.filter (fun x => x.tag != e.tag) = d :=
        List.filter_eq_self.mpr fun x hx => by simpa using (others x hx).symm
      rw [List.filter_cons, if_neg (by simp), stay]
    · rw [List.filter_cons, if_pos (by simpa using others e he)]
      exact ((ih distinct he).cons a).trans (List.Perm.swap e a _)

/-- The entries that have a property, when one entry is given a phase. -/
theorem State.countP_setPhase (distinct : s.tagsDistinct) (he : e ∈ s.drt) (P : Entry → Bool) :
    (s.setPhase e.tag phase).drt.countP P =
      (s.drt.filter (fun x => x.tag != e.tag)).countP P + if P { e with phase := phase } = true then 1 else 0 := by
  have perm := (perm_cons_filter distinct he).map (fun x => if x.tag = e.tag then { x with phase := phase } else x)
  have stay : (s.drt.filter (fun x => x.tag != e.tag)).map
      (fun x => if x.tag = e.tag then { x with phase := phase } else x) = s.drt.filter (fun x => x.tag != e.tag) :=
    (List.map_congr_left fun x hx => if_neg (by simpa using (List.mem_filter.mp hx).2)).trans (List.map_id _)
  rw [List.map_cons, if_pos rfl, stay] at perm
  rw [State.setPhase, perm.countP_eq, List.countP_cons]

/-- The entries that have a property, one of them apart. -/
theorem State.countP_drt (distinct : s.tagsDistinct) (he : e ∈ s.drt) (P : Entry → Bool) :
    s.drt.countP P = (s.drt.filter (fun x => x.tag != e.tag)).countP P + if P e = true then 1 else 0 := by
  rw [(perm_cons_filter distinct he).countP_eq, List.countP_cons]

end

/-! ## What a move does to the entries -/

/-- R26: an entry that has changed in its state and its freshness alone, and was live if it is. -/
def Entry.becomes (e x : Entry) : Prop :=
  x = { e with phase := x.phase, fresh := x.fresh } ∧ (x.live = true → e.live = true)

section

variable {s t : State} {d : List Entry} {q : List PostedWrite}

theorem Entry.becomes_refl (e : Entry) : e.becomes e := ⟨rfl, id⟩

theorem Entry.becomes_phase {e : Entry} {phase : Phase} (h : e.live = true ∨ phase = .orphaned) :
    e.becomes { e with phase := phase } := by
  refine ⟨rfl, fun live => h.resolve_right fun gone => ?_⟩
  subst gone
  cases live

theorem Entry.becomes_overlapCheck (e : Entry) (r : Resource) (dest count occupancy : Nat) :
    e.becomes (e.overlapCheck r dest count occupancy) := by
  unfold Entry.overlapCheck
  split
  · rename_i acted
    refine ⟨rfl, fun _ => ?_⟩
    rw [Entry.live]
    cases phase : e.phase with
    | orphaned => simp [Entry.actedOn, phase] at acted
    | _ => rfl
  · exact Entry.becomes_refl e

theorem Entry.becomes_lowered (e : Entry) : e.becomes e.lowered := by
  refine ⟨rfl, fun live => ?_⟩
  unfold Entry.live Entry.lowered Phase.lowered at live
  rw [Entry.live]
  cases phase : e.phase with
  | orphaned => rw [phase] at live; cases live
  | _ => rfl

theorem Entry.becomes_tick (e : Entry) : e.becomes e.tick := by
  unfold Entry.tick
  split
  · rename_i phase
    exact ⟨rfl, fun _ => by rw [Entry.live, phase]; rfl⟩
  · exact Entry.becomes_refl e

/-- What becomes of the list of entries in a move: some leave and the others change, or one is allocated. -/
theorem TableMove.entries (distinct : s.tagsDistinct) (h : TableMove s d q) :
    (∃ (P : Entry → Bool) (f : Entry → Entry), d = (s.drt.filter P).map f ∧ ∀ e ∈ s.drt, e.becomes (f e)) ∨
      ∃ (tag : Tag) (p : PortId) (kind : EntryKind) (addr count : Nat) (w : WindowId), s.online p = true ∧
        s.freeTag = some tag ∧ s.matching p kind addr count = none ∧ s.admits p = true ∧ s.reaches addr count w ∧
        (kind ≠ .read → count = 8) ∧ d = (s.allocate tag p kind addr count w).drt := by
  have mapped : ∀ f : Entry → Entry, d = s.drt.map f → (∀ e ∈ s.drt, e.becomes (f e)) →
      ∃ (P : Entry → Bool) (f : Entry → Entry), d = (s.drt.filter P).map f ∧ ∀ e ∈ s.drt, e.becomes (f e) :=
    fun f hd hf => ⟨fun _ => true, f, by rw [hd, List.filter_true], hf⟩
  have phased : ∀ {e : Entry} {phase : Phase}, e ∈ s.drt → (e.live = true ∨ phase = .orphaned) →
      d = (s.setPhase e.tag phase).drt →
      ∃ (P : Entry → Bool) (f : Entry → Entry), d = (s.drt.filter P).map f ∧ ∀ e ∈ s.drt, e.becomes (f e) := by
    intro e phase he live hd
    refine mapped _ hd fun x hx => ?_
    split
    · rename_i tag
      rw [State.eq_of_tag distinct hx he tag]
      exact Entry.becomes_phase live
    · exact Entry.becomes_refl x
  cases h with
  | same => exact .inl (mapped id (List.map_id _).symm fun e _ => Entry.becomes_refl e)
  | startDrain => exact .inl (mapped id (List.map_id _).symm fun e _ => Entry.becomes_refl e)
  | startFetch found =>
    have eligible := List.find?_some found
    rw [Entry.eligible, Bool.and_eq_true, beq_iff_eq, beq_iff_eq] at eligible
    exact .inl (phased (List.mem_of_find?_eq_some found) (.inl (by rw [Entry.live, eligible.2]; rfl)) rfl)
  | @allocate tag p kind addr count w online fresh unmatched admitted reach swap =>
    exact .inr ⟨tag, p, kind, addr, count, w, online, fresh, unmatched, admitted, reach, swap, rfl⟩
  | accept => exact .inl (mapped _ rfl fun e _ => Entry.becomes_overlapCheck e ..)
  | orphan he => exact .inl (phased he (.inr rfl) rfl)
  | vacate =>
    exact .inl ⟨_, id, (List.map_id _).symm, fun e _ => Entry.becomes_refl e⟩
  | dismiss P =>
    rw [dismissedList, foldl_dismissFrom_filter distinct]
    refine .inl ⟨_, _, rfl, fun e _ => ?_⟩
    split
    · exact Entry.becomes_phase (.inr rfl)
    · exact Entry.becomes_refl e
  | popHead => exact .inl (mapped _ rfl fun e _ => Entry.becomes_lowered e)
  | fetched _ he phase => exact .inl (phased he (.inl (by rw [Entry.live, phase]; rfl)) rfl)
  | refetch he phase => exact .inl (phased he (.inl (by rw [Entry.live, phase]; rfl)) rfl)
  | tick => exact .inl (mapped _ rfl fun e _ => Entry.becomes_tick e)

theorem State.freeTag_fresh {tag : Tag} (h : s.freeTag = some tag) : ∀ e ∈ s.drt, e.tag ≠ tag := by
  have fresh := List.find?_some h
  rw [List.all_eq_true] at fresh
  exact fun e he => by simpa using fresh e he

/-- The list of entries as an allocation leaves it. -/
theorem State.allocate_drt (tag : Tag) (p : PortId) (kind : EntryKind) (addr count : Nat) (w : WindowId) :
    (s.allocate tag p kind addr count w).drt =
      s.drt ++ [{ tag := tag, owner := p, kind := kind, addr := addr, count := count, window := w
                  resource := (s.window w).resource, dest := (s.window w).translate addr, fresh := 0
                  phase := .waiting s.pwq.length }] := rfl

/-- R28: no tag comes twice. -/
theorem TableMove.distinct (distinct : s.tagsDistinct) (h : TableMove s d q) : d.Pairwise (fun a b => a.tag ≠ b.tag) := by
  obtain ⟨P, f, rfl, becomes⟩ | ⟨tag, p, kind, addr, count, w, -, fresh, -, -, -, -, rfl⟩ := h.entries distinct
  · refine List.pairwise_map.mpr ((distinct.filter P).imp_of_mem fun {a b} ha hb differ => ?_)
    rw [(becomes a (List.mem_filter.mp ha).1).1, (becomes b (List.mem_filter.mp hb).1).1]
    exact differ
  · rw [State.allocate_drt]
    refine List.pairwise_append.mpr ⟨distinct, List.pairwise_singleton _ _, fun a ha b hb => ?_⟩
    rw [List.mem_singleton.mp hb]
    exact State.freeTag_fresh fresh a ha

theorem kept_tagsDistinct : Kept State.tagsDistinct where
  move _ _ distinct h := h.tables.distinct distinct
  config s t distinct h := by
    obtain ⟨same, -⟩ | ⟨empty, -⟩ := h.tables
    · rw [State.tagsDistinct, same]; exact distinct
    · rw [State.tagsDistinct, empty]; exact List.Pairwise.nil
  pending _ _ distinct := distinct

end

/-! ## Reference counts (R6, R28) -/

/-- R5, R6: a window and the number of entries that name it. -/
def Window.counts (win : Window) (n : Nat) : Prop :=
  win.refCount = n ∧ (win.state = .disabled → win.refCount = 0) ∧ (win.state = .draining → 1 ≤ win.refCount)

theorem Window.counts_released {win : Window} {n k : Nat} (h : win.counts (n + k)) : (win.released k).counts n := by
  obtain ⟨count, disabled, draining⟩ := h
  refine ⟨by simp only [Window.released]; omega, fun st => ?_, fun st => ?_⟩
  · simp only [Window.released] at st ⊢
    split at st
    · omega
    · have := disabled st; omega
  · simp only [Window.released] at st ⊢
    split at st
    · cases st
    · rename_i stays
      have more : ¬win.refCount ≤ k := fun less => stays ⟨st, less⟩
      omega

theorem Window.counts_taken {win : Window} {n : Nat} (h : win.counts n) (enabled : win.state = .enabled) :
    ({ win with refCount := win.refCount + 1 } : Window).counts (n + 1) := by
  refine ⟨congrArg (· + 1) h.1, fun st => ?_, fun st => ?_⟩
  · simp only [enabled] at st; cases st
  · simp only [enabled] at st; cases st

section

variable {s t : State} {d : List Entry} {q : List PostedWrite}

/-- R6: the entries of both tables that name a window. -/
def namings (d : List Entry) (q : List PostedWrite) (w : WindowId) : Nat :=
  q.countP (fun x => x.window == w) + d.countP (fun e => e.window == w)

theorem State.refCountsOk_iff : s.refCountsOk ↔ ∀ w, (s.window w).counts (namings s.drt s.pwq w) := Iff.rfl

theorem State.lookup_enabled {addr : Nat} {w : WindowId} (h : s.lookup addr = some w) : (s.window w).state = .enabled := by
  unfold State.lookup at h
  split at h
  · split at h
    · rename_i enabled; cases h; exact beq_iff_eq.mp enabled
    · cases h
  · cases h

/-- Entries that change keep their windows. -/
theorem countP_window_map {f : Entry → Entry} {l : List Entry} (h : ∀ e ∈ l, (f e).window = e.window) (w : WindowId) :
    (l.map f).countP (fun e => e.window == w) = l.countP (fun e => e.window == w) := by
  rw [List.countP_map]
  exact List.countP_congr fun e he => by simp [h e he]

theorem Entry.window_becomes {e x : Entry} (h : e.becomes x) : x.window = e.window := by rw [h.1]

theorem countP_setPhase_window (s : State) (tag : Tag) (phase : Phase) (w : WindowId) :
    (s.setPhase tag phase).drt.countP (fun e => e.window == w) = s.drt.countP (fun e => e.window == w) :=
  countP_window_map (fun e _ => by split <;> rfl) w

/-- A window that is taken a reference for an entry that names it now. -/
theorem State.counts_takeRef {w v : WindowId} {n : WindowId → Nat} (ok : ∀ v, (s.window v).counts (n v))
    (enabled : (s.window w).state = .enabled) :
    ((s.takeRef w).window v).counts (n v + if w = v then 1 else 0) := by
  rw [State.window_takeRef]
  by_cases h : w = v
  · subst h
    rw [if_pos rfl, if_pos rfl]
    exact Window.counts_taken (ok w) enabled
  · rw [if_neg (Ne.symm h), if_neg h]
    exact ok v

/-- A window that loses the reference of an entry that names it no more. -/
theorem State.counts_unref {w v : WindowId} {n : WindowId → Nat}
    (ok : ∀ v, (s.window v).counts (n v + if w = v then 1 else 0)) : ((s.unref w 1).window v).counts (n v) := by
  rw [State.window_unref]
  by_cases h : w = v
  · subst h
    have was := ok w
    rw [if_pos rfl] at was ⊢
    exact Window.counts_released was
  · have was := ok v
    rw [if_neg h] at was
    rw [if_neg (Ne.symm h)]
    exact was

theorem State.counts_vacate {e : Entry} (distinct : s.tagsDistinct) (he : e ∈ s.drt) (ok : s.refCountsOk) (w : WindowId) :
    ((s.vacate e).window w).counts (namings (s.vacate e).drt (s.vacate e).pwq w) := by
  refine State.counts_unref (s := { s with drt := s.drt.filter (fun x => x.tag != e.tag) })
    (n := namings (s.drt.filter (fun x => x.tag != e.tag)) s.pwq) fun v => ?_
  have was := ok v
  rw [State.references, State.countP_drt distinct he, ← Nat.add_assoc] at was
  simp only [beq_iff_eq] at was
  exact was

theorem State.counts_popHead {h : PostedWrite} {rest : List PostedWrite} (queued : s.pwq = h :: rest) (ok : s.refCountsOk)
    (w : WindowId) : ((s.popHead h rest).window w).counts (namings (s.popHead h rest).drt (s.popHead h rest).pwq w) := by
  refine State.counts_unref (s := { s with pwq := rest, drt := s.drt.map Entry.lowered })
    (n := namings (s.drt.map Entry.lowered) rest) fun v => ?_
  have was := ok v
  rw [State.references, queued, List.countP_cons, Nat.add_right_comm] at was
  rw [namings, countP_window_map (f := Entry.lowered) (fun e _ => rfl)]
  simp only [beq_iff_eq] at was
  exact was

theorem State.counts_allocate {tag : Tag} {p : PortId} {kind : EntryKind} {addr count : Nat} {w : WindowId}
    (reach : s.reaches addr count w) (ok : s.refCountsOk) (v : WindowId) :
    ((s.allocate tag p kind addr count w).window v).counts
      (namings (s.allocate tag p kind addr count w).drt (s.allocate tag p kind addr count w).pwq v) := by
  have taken := State.counts_takeRef (s := s) (w := w) (v := v) (n := s.references) ok (State.lookup_enabled reach.1)
  rw [State.allocate_drt, namings, List.countP_append, List.countP_singleton, ← Nat.add_assoc]
  simp only [beq_iff_eq]
  exact taken

theorem State.accept_pwq (s : State) (p : PortId) (addr : Nat) (data : List Byte) (w : WindowId) :
    (s.accept p addr data w).pwq = s.pwq ++
      [{ sequence := s.lastSequence + 1, source := p, window := w, addr := addr, resource := (s.window w).resource
         dest := (s.window w).translate addr, data := data, inFlight := false }] := rfl

theorem State.counts_accept {p : PortId} {addr : Nat} {data : List Byte} {w : WindowId}
    (reach : s.reaches addr data.length w) (ok : s.refCountsOk) (v : WindowId) :
    ((s.accept p addr data w).window v).counts
      (namings (s.accept p addr data w).drt (s.accept p addr data w).pwq v) := by
  have taken := State.counts_takeRef (s := s) (w := w) (v := v) (n := s.references) ok (State.lookup_enabled reach.1)
  have drt : (s.accept p addr data w).drt.countP (fun e => e.window == v) = s.drt.countP (fun e => e.window == v) :=
    countP_window_map (fun e _ => Entry.window_becomes (Entry.becomes_overlapCheck e ..)) v
  rw [namings, drt, State.accept_pwq, List.countP_append, List.countP_singleton, Nat.add_right_comm]
  simp only [beq_iff_eq]
  exact taken

theorem State.counts_dismiss {P : Entry → Bool} {named : WindowId → Bool} (distinct : s.tagsDistinct)
    (names : ∀ e, P e = true → named e.window = true) (ok : s.refCountsOk) (w : WindowId) :
    ((s.dismiss P named).window w).counts (namings (s.dismiss P named).drt (s.dismiss P named).pwq w) := by
  have left : (s.dismiss P named).drt.countP (fun e => e.window == w) =
      s.drt.countP (fun e => !(P e && e.phase.idle) && e.window == w) := by
    rw [State.dismiss_drt, foldl_dismissFrom_filter distinct, countP_window_map (fun e _ => by split <;> rfl),
      List.countP_filter]
    exact List.countP_congr fun e _ => by rw [Bool.and_comm]
  have split : s.drt.countP (fun e => e.window == w) =
      s.drt.countP (fun e => !(P e && e.phase.idle) && e.window == w) +
        s.drt.countP (fun e => (P e && e.phase.idle) && e.window == w) := by
    rw [List.countP_eq_countP_filter_add s.drt (fun e => e.window == w) (fun e => !(P e && e.phase.idle)),
      List.countP_filter, List.countP_filter]
    congr 1
    · exact List.countP_congr fun e _ => by rw [Bool.and_comm]
    · exact List.countP_congr fun e _ => by rw [Bool.and_comm, Bool.not_not]
  have was := ok w
  rw [State.references, split, ← Nat.add_assoc] at was
  rw [State.window_dismiss, namings, left]
  split
  · exact Window.counts_released was
  · rename_i unnamed
    have none : s.drt.countP (fun e => (P e && e.phase.idle) && e.window == w) = 0 := by
      refine List.countP_eq_zero.mpr fun e _ both => ?_
      simp only [Bool.and_eq_true, beq_iff_eq] at both
      exact unnamed (both.2 ▸ names e both.1.1)
    rw [none] at was
    exact was

end

section

variable {s t : State}

theorem State.namings_startDrain (s : State) (w : WindowId) :
    namings s.startDrain.drt s.startDrain.pwq w = namings s.drt s.pwq w := by
  unfold State.startDrain
  split
  · rfl
  · rename_i queued; rw [queued, namings, namings, List.countP_cons, List.countP_cons]

theorem State.namings_startFetch (s : State) (r : Resource) (w : WindowId) :
    namings (s.startFetch r).drt (s.startFetch r).pwq w = namings s.drt s.pwq w := by
  unfold State.startFetch
  split
  · rw [namings, countP_setPhase_window]; rfl
  · rfl

theorem State.namings_grantPosition (s : State) (pos : Position) (w : WindowId) :
    namings (s.grantPosition pos).drt (s.grantPosition pos).pwq w = namings s.drt s.pwq w := by
  cases pos with
  | port p => rfl
  | drain => exact State.namings_startDrain { s with store := some .drain, lastPosition := .drain } w
  | fetch => exact State.namings_startFetch { s with store := some .fetch, lastPosition := .fetch } .ls w

theorem State.namings_grantStream (s : State) (stream : Stream) (w : WindowId) :
    namings (s.grantStream stream).drt (s.grantStream stream).pwq w = namings s.drt s.pwq w := by
  cases stream with
  | drain =>
    unfold State.grantStream
    simp only []
    split
    · exact s.namings_startDrain w
    · rfl
  | fetch =>
    unfold State.grantStream
    simp only []
    split
    · exact s.namings_startFetch .xb w
    · rfl

theorem Move.refCountsOk (distinct : s.tagsDistinct) (ok : s.refCountsOk) {k : MoveKind} (h : Move s k t) : t.refCountsOk := by
  have stand : ∀ {u : State}, u.windows = s.windows → (∀ w, namings u.drt u.pwq w = namings s.drt s.pwq w) →
      u.refCountsOk := by
    intro u windows same w
    have was := ok w
    rw [State.references, ← namings, ← same w] at was
    rw [State.window, windows]
    exact was
  have phased : ∀ (tag : Tag) (phase : Phase), (s.setPhase tag phase).refCountsOk := fun tag phase =>
    stand rfl fun w => congrArg (s.pwq.countP (fun x => x.window == w) + ·) (countP_setPhase_window s tag phase w)
  have idle : ∀ {u : State} {r : Resource}, u.refCountsOk → (u.leaveIdle r).refCountsOk := by
    intro u r hu w
    have was := hu w
    rw [State.references] at was ⊢
    rw [State.window_leaveIdle, State.leaveIdle_drt, State.leaveIdle_pwq]
    exact was
  cases h with
  | grantPosition => exact stand (State.grantPosition_windows ..) fun w => s.namings_grantPosition _ w
  | grantStream => exact stand (State.grantStream_windows ..) fun w => s.namings_grantStream _ w
  | allocate _ _ _ _ reach => exact State.counts_allocate reach ok
  | accept _ reach => exact State.counts_accept reach ok
  | orphan => exact phased _ _
  | vacate he => exact State.counts_vacate distinct he ok
  | dismiss P named names => exact State.counts_dismiss distinct names ok
  | @disable w enabled =>
    intro v
    have was := ok v
    rw [State.window_modifyWindow]
    split
    · rename_i same
      subst same
      refine ⟨was.1, fun st => ?_, fun st => ?_⟩
      · simp only [Window.disabledState] at st ⊢
        split at st
        · assumption
        · cases st
      · simp only [Window.disabledState] at st ⊢
        split at st
        · cases st
        · omega
    · exact was
  | leaveIdle => exact idle ok
  | popHead _ queued => exact idle (State.counts_popHead queued ok)
  | fetched => exact idle (phased _ _)
  | refetch => exact idle (phased _ _)
  | dropFetched _ found => exact idle (State.counts_vacate distinct (State.mem_of_fetchedEntry found) ok)
  | tick =>
    refine stand rfl fun w => ?_
    exact congrArg (s.pwq.countP (fun x => x.window == w) + ·)
      (countP_window_map (fun e _ => Entry.window_becomes (Entry.becomes_tick e)) w)
  | resetInputs => exact stand (by simp) fun w => by simp
  | port | choose | grantClaim | dropClaim | transaction | drive | memory => exact stand rfl fun _ => rfl

theorem kept_refCountsOk : Kept (fun s => s.tagsDistinct ∧ s.refCountsOk) where
  move s t ok h := ⟨kept_tagsDistinct.move s t ok.1 h, h.refCountsOk ok.1 ok.2⟩
  config s t ok h := by
    refine ⟨kept_tagsDistinct.config s t ok.1 h, fun w => ?_⟩
    have was := ok.2 w
    cases h with
    | @enable p x win disabled staged apart =>
      rw [State.window_modifyWindow]
      split
      · rename_i same
        subst same
        exact ⟨was.1, fun st => absurd ((Staging.toWindow_enabled staged).symm.trans st) (by simp),
          fun st => absurd ((Staging.toWindow_enabled staged).symm.trans st) (by simp)⟩
      · exact was
    | @rights x list present =>
      rw [State.window_modifyWindow]
      split
      · rename_i same
        subst same
        exact was
      · exact was
    | reset input clearing mem =>
      have cleared := s.window_clearDevice w
      exact cleared ▸ ⟨rfl, fun _ => rfl, nofun⟩
    | discardInterval | leaseInterval | timeout => exact was
  pending _ _ ok := ok

end

/-- Settles O53: an entry that comes takes a reference with it, one that goes leaves with its own. -/
theorem referencesStayCounted : Obligations.ReferencesStayCounted :=
  fun _ _ distinct counts h => kept_refCountsOk.step ⟨distinct, counts⟩ h

end Sys2Proof.Machine
end

section
/-! SUPPORT. The Delayed Request Table: keys, fetches, charges and absent ports; and the queue with the fences. -/

/- The proofs are checked one after another: each that waits for the kernel holds the stack of a thread. -/
set_option Elab.async false

namespace Sys2Proof.Machine

/-! ## Match keys (R30) -/

section

variable {s t : State} {d : List Entry} {q : List PostedWrite}

theorem State.not_matching {p : PortId} {kind : EntryKind} {addr count : Nat} (h : s.matching p kind addr count = none) :
    ∀ e ∈ s.drt, e.live = true → ¬(e.owner = p ∧ e.kind = kind ∧ e.addr = addr ∧ e.count = count) := by
  rintro e he live ⟨rfl, rfl, rfl, rfl⟩
  have no := List.find?_eq_none.mp h e he
  exact no (by simp [Entry.matchesKey, live])

theorem TableMove.keysDistinct (distinct : s.tagsDistinct) (keys : s.keysDistinct) (h : TableMove s d q) :
    d.Pairwise (fun a b => a.live = true → b.live = true →
      ¬(a.owner = b.owner ∧ a.kind = b.kind ∧ a.addr = b.addr ∧ a.count = b.count)) := by
  obtain ⟨P, f, rfl, becomes⟩ | ⟨tag, p, kind, addr, count, w, -, -, unmatched, -, -, -, rfl⟩ := h.entries distinct
  · refine List.pairwise_map.mpr ((keys.filter P).imp_of_mem fun {a b} ha hb apart liveA liveB => ?_)
    obtain ⟨eqA, wasA⟩ := becomes a (List.mem_filter.mp ha).1
    obtain ⟨eqB, wasB⟩ := becomes b (List.mem_filter.mp hb).1
    have differ := apart (wasA liveA) (wasB liveB)
    rw [eqA, eqB]
    exact differ
  · rw [State.allocate_drt]
    refine List.pairwise_append.mpr ⟨keys, List.pairwise_singleton _ _, fun a ha b hb liveA _ => ?_⟩
    rw [List.mem_singleton.mp hb]
    exact State.not_matching unmatched a ha liveA

/-! ## One fetch per resource (R37) -/

theorem Entry.not_occupies_of_eligible {e : Entry} {r r' : Resource} (h : e.eligible r = true) : e.occupies r' = false := by
  rw [Entry.eligible, Bool.and_eq_true, beq_iff_eq, beq_iff_eq] at h
  rw [Entry.occupies, h.2, Bool.and_false]

/-- Of entries that change, none occupies a resource but those that did. -/
theorem countP_occupies_map {f : Entry → Entry} {l : List Entry} {r : Resource}
    (h : ∀ e ∈ l, (f e).occupies r = true → e.occupies r = true) :
    (l.map f).countP (Entry.occupies r) ≤ l.countP (Entry.occupies r) := by
  rw [List.countP_map]
  exact List.countP_mono_left h

theorem Entry.occupies_of_overlapCheck {e : Entry} {x : Resource} {dest count occupancy : Nat} {r : Resource}
    (h : (e.overlapCheck x dest count occupancy).occupies r = true) : e.occupies r = true := by
  unfold Entry.overlapCheck at h
  split at h
  · rw [Entry.occupies_iff] at h ⊢
    refine ⟨h.1, ?_⟩
    cases phase : e.phase <;> simp [Phase.overtaken, phase, Phase.fetches] at h ⊢
  · exact h

theorem Entry.occupies_lowered {e : Entry} {r : Resource} : e.lowered.occupies r = true → e.occupies r = true := by
  rw [Entry.occupies_iff, Entry.occupies_iff]
  rintro ⟨resource, phase⟩
  refine ⟨resource, ?_⟩
  unfold Entry.lowered Phase.lowered at phase
  simp only [] at phase
  split at phase
  · simp [Phase.fetches] at phase
  · rename_i fetching; rw [fetching]; exact .inl rfl
  · exact phase

theorem Entry.occupies_tick {e : Entry} {r : Resource} : e.tick.occupies r = true → e.occupies r = true := by
  unfold Entry.tick
  split
  · intro h; simp [Entry.occupies] at h
  · exact id

/-- R37: the entries that occupy a resource stay at most one. -/
theorem TableMove.oneFetch (distinct : s.tagsDistinct) {r : Resource} (one : s.drt.countP (Entry.occupies r) ≤ 1)
    (h : TableMove s d q) : d.countP (Entry.occupies r) ≤ 1 := by
  have phased : ∀ {e : Entry} {phase : Phase}, e ∈ s.drt →
      (({ e with phase := phase } : Entry).occupies r = true → e.occupies r = true) →
      (s.setPhase e.tag phase).drt.countP (Entry.occupies r) ≤ 1 := by
    intro e phase he hp
    rw [State.countP_drt distinct he] at one
    rw [State.countP_setPhase distinct he]
    split
    · rename_i now; rw [if_pos (hp now)] at one; exact one
    · omega
  cases h with
  | same | startDrain => exact one
  | @startFetch r' e found requests =>
    have he := List.mem_of_find?_eq_some found
    have eligible := List.find?_some found
    by_cases same : r' = r
    · subst same
      rw [State.fetchRequests, Bool.and_eq_true, Bool.not_eq_true'] at requests
      have none : s.drt.countP (Entry.occupies r') = 0 :=
        List.countP_eq_zero.mpr fun x hx => by simpa using List.any_eq_false.mp requests.2 x hx
      rw [State.countP_drt distinct he] at none
      rw [State.countP_setPhase distinct he]
      split <;> omega
    · refine phased he fun now => ?_
      rw [Entry.eligible, Bool.and_eq_true, beq_iff_eq] at eligible
      rw [Entry.occupies_iff] at now
      exact absurd (eligible.1.symm.trans now.1) same
  | allocate =>
    rw [State.allocate_drt, List.countP_append, List.countP_singleton, if_neg (by simp [Entry.occupies])]
    exact one
  | accept => exact (countP_occupies_map fun e _ => Entry.occupies_of_overlapCheck).trans one
  | orphan he fetches =>
    refine phased he fun now => ?_
    rw [Entry.occupies_iff] at now ⊢
    exact ⟨now.1, .inl fetches⟩
  | vacate => exact (List.Sublist.countP_le List.filter_sublist).trans one
  | dismiss P =>
    rw [dismissedList, foldl_dismissFrom_filter distinct]
    refine (countP_occupies_map fun e he now => ?_).trans ((List.Sublist.countP_le List.filter_sublist).trans one)
    have stays := (List.mem_filter.mp he).2
    split at now
    · rename_i hP
      rw [Entry.occupies_iff] at now ⊢
      refine ⟨now.1, ?_⟩
      cases phase : e.phase <;> simp [hP, phase, Phase.idle, Phase.fetches] at stays ⊢
    · exact now
  | popHead => exact (countP_occupies_map fun e _ => Entry.occupies_lowered).trans one
  | fetched _ he => exact phased he fun now => by simp [Entry.occupies] at now
  | refetch he => exact phased he fun now => by simp [Entry.occupies] at now
  | tick => exact (countP_occupies_map fun e _ => Entry.occupies_tick).trans one

/-! ## Charges (R33, R34) -/

/-- R34: the law of the charges, of a list of entries. -/
def chargesWithin (d : List Entry) : Prop :=
  (∀ p : PortId, d.countP (fun e => e.owner == p) ≤ 5) ∧
    (d.countP (fun e => e.owner == 0) - 2) + (d.countP (fun e => e.owner == 1) - 2) +
      (d.countP (fun e => e.owner == 2) - 2) + (d.countP (fun e => e.owner == 3) - 2) ≤ 6

theorem chargesWithin_of_le {d d' : List Entry} (h : chargesWithin d)
    (le : ∀ p : PortId, d'.countP (fun e => e.owner == p) ≤ d.countP (fun e => e.owner == p)) : chargesWithin d' := by
  obtain ⟨each, shared⟩ := h
  refine ⟨fun p => (le p).trans (each p), ?_⟩
  have := le 0
  have := le 1
  have := le 2
  have := le 3
  omega

theorem TableMove.charges (distinct : s.tagsDistinct) (ok : s.chargesOk) (h : TableMove s d q) : chargesWithin d := by
  obtain ⟨P, f, rfl, becomes⟩ | ⟨tag, p, kind, addr, count, w, -, -, -, admitted, -, -, rfl⟩ := h.entries distinct
  · refine chargesWithin_of_le ok fun p => ?_
    rw [List.countP_map]
    refine (List.countP_congr fun e he => ?_).trans_le (List.Sublist.countP_le (List.filter_sublist (p := P)))
    rw [Function.comp_apply, (becomes e (List.mem_filter.mp he).1).1]
  · have charge : ∀ r : PortId, (s.allocate tag p kind addr count w).drt.countP (fun e => e.owner == r) =
        s.charge r + if p = r then 1 else 0 := by
      intro r
      rw [State.allocate_drt, List.countP_append, List.countP_singleton]
      simp only [beq_iff_eq]
      rfl
    obtain ⟨each, shared⟩ := ok
    simp only [State.admits, Bool.or_eq_true, Bool.and_eq_true, decide_eq_true_iff] at admitted
    refine ⟨fun r => ?_, ?_⟩
    · rw [charge]
      have := each r
      split
      · rename_i own; subst own; omega
      · omega
    · rw [charge, charge, charge, charge]
      rw [State.sharedCharge] at shared admitted
      fin_cases p <;> simp at admitted ⊢ <;> omega

/-! ## Ports that are not ONLINE (R139) -/

theorem PortMove.absent_cases {p : PortId} {port' : Port} {k : MoveKind} (h : PortMove s p k port') (absent : port'.online = false) :
    (s.online p = false ∧ ((s.port p).queue = [] ∧ (s.port p).staging = Staging.empty →
        port'.queue = [] ∧ port'.staging = Staging.empty)) ∨
      (s.forgets p ∧ port'.queue = [] ∧ port'.staging = Staging.empty) := by
  have notOnline : ∀ {st}, (s.port p).state = st → st ≠ .online → s.online p = false := by
    intro st hst ne
    rw [State.online, Port.online, hst]
    exact beq_eq_false_iff_ne.mpr ne
  cases h with
  | send =>
    rw [Port.send_online] at absent
    exact .inl ⟨absent, by rw [Port.send_queue, Port.send_staging]; exact id⟩
  | offer r =>
    rw [Port.offer_online] at absent
    exact .inl ⟨absent, by rw [Port.offer_of_not_online absent]; exact id⟩
  | linkUp offered =>
    rw [State.linkOffered, Bool.and_eq_true, beq_iff_eq] at offered
    exact .inl ⟨notOnline offered.1 (by simp), id⟩
  | join => cases absent
  | detach _ forgets => exact .inr ⟨forgets, rfl, rfl⟩
  | unlinkTorn _ _ forgets => exact .inr ⟨forgets, rfl, rfl⟩
  | unlink _ state => exact .inl ⟨notOnline state (by simp), id⟩
  | pop => exact .inl ⟨absent, fun ⟨queue, staging⟩ => ⟨by simp [queue], staging⟩⟩
  | stage st online => exact absurd online (by rw [State.online]; exact Bool.eq_false_iff.mp absent)
  | answer | read | undrop | receive | linkFault | wviewSel | tviewSel | attn => exact .inl ⟨absent, id⟩

theorem Move.absentPortsClear (distinct : s.tagsDistinct) (ok : s.absentPortsClear) {k : MoveKind} (h : Move s k t) :
    t.absentPortsClear := by
  intro p absent
  obtain ⟨q, port', move, rfl⟩ | ports := h.ports_cases
  · rw [State.online, State.port_modifyPort] at absent
    rw [State.port_modifyPort]
    split
    · rename_i same
      subst same
      rw [if_pos rfl] at absent
      obtain ⟨was, keeps⟩ | ⟨forgets, clear⟩ := move.absent_cases absent
      · obtain ⟨entries, clear⟩ := ok p was
        exact ⟨entries, keeps clear⟩
      · exact ⟨forgets.1, clear⟩
    · rename_i other
      rw [if_neg other] at absent
      exact ok p absent
  · have port : t.port p = s.port p := by rw [State.port, ports]; rfl
    rw [State.online, port] at absent
    obtain ⟨entries, clear⟩ := ok p absent
    rw [port]
    refine ⟨?_, clear⟩
    obtain ⟨P, f, drt, becomes⟩ | ⟨tag, p', kind, addr, count, w, online, -, -, -, -, -, drt⟩ := h.tables.entries distinct
    · rw [drt]
      refine List.forall_mem_map.mpr fun e he own => ?_
      have he := (List.mem_filter.mp he).1
      obtain ⟨same, was⟩ := becomes e he
      rw [same] at own
      exact Bool.eq_false_iff.mpr (mt was (Bool.eq_false_iff.mp (entries e he own)))
    · rw [drt, State.allocate_drt]
      intro e he own
      obtain he | he := List.mem_append.mp he
      · exact entries e he own
      · rw [List.mem_singleton.mp he] at own
        simp only [] at own
        subst own
        exact absurd online (by rw [State.online]; exact Bool.eq_false_iff.mp absent)

/-- The laws of the table, with that of the tags. -/
def State.tableOk (s : State) : Prop :=
  s.tagsDistinct ∧ s.keysDistinct ∧ s.oneFetchPerResource ∧ s.chargesOk ∧ s.absentPortsClear

theorem kept_tableOk : Kept State.tableOk where
  move s t ok h := by
    obtain ⟨distinct, keys, one, charges, absent⟩ := ok
    exact ⟨kept_tagsDistinct.move s t distinct h, h.tables.keysDistinct distinct keys,
      ⟨h.tables.oneFetch distinct one.1, h.tables.oneFetch distinct one.2⟩, h.tables.charges distinct charges,
      h.absentPortsClear distinct absent⟩
  config s t ok h := by
    obtain ⟨distinct, keys, one, charges, absent⟩ := ok
    cases h with
    | reset input clearing mem =>
      refine ⟨List.Pairwise.nil, List.Pairwise.nil, ⟨Nat.zero_le _, Nat.zero_le _⟩,
        ⟨fun _ => Nat.zero_le _, Nat.zero_le _⟩, fun p _ => ⟨nofun, ?_⟩⟩
      simp [State.port, State.clearDevice, Port.reset]
    | discardInterval | leaseInterval | timeout | enable | rights => exact ⟨distinct, keys, one, charges, absent⟩
  pending _ _ ok := ok

end

/-- Settles O54: the laws of the table, that of the tags among them, are kept by every move. -/
theorem theTableStaysLegal : Obligations.TheTableStaysLegal := by
  intro s t distinct keys one charges absent h
  exact (kept_tableOk.step ⟨distinct, keys, one, charges, absent⟩ h).2

/-! ## The Posted Write Queue (R58, R59, R71) -/

section

variable {s t : State} {d : List Entry} {q : List PostedWrite}

/-- What a move does to the queue and its last-accepted sequence. -/
inductive QueueMove (s : State) : List PostedWrite → BitVec 16 → Prop
  | same : QueueMove s s.pwq s.lastSequence
  | startDrain {h : PostedWrite} {rest : List PostedWrite} (queued : s.pwq = h :: rest) :
      QueueMove s ({ h with inFlight := true } :: rest) s.lastSequence
  | accept {p : PortId} {addr : Nat} {data : List Byte} {w : WindowId} (room : s.queueRoom p = true) :
      QueueMove s (s.accept p addr data w).pwq (s.lastSequence + 1)
  | pop {h : PostedWrite} {rest : List PostedWrite} (queued : s.pwq = h :: rest) : QueueMove s rest s.lastSequence

theorem State.startDrain_queue (s : State) : QueueMove s s.startDrain.pwq s.startDrain.lastSequence := by
  unfold State.startDrain
  split
  · exact .same
  · rename_i queued; exact .startDrain queued

theorem State.grantPosition_queue (s : State) (pos : Position) :
    QueueMove s (s.grantPosition pos).pwq (s.grantPosition pos).lastSequence := by
  rw [State.grantPosition_lastSequence]
  cases pos with
  | port p => exact .same
  | drain =>
    have moved := State.startDrain_queue { s with store := some .drain, lastPosition := .drain }
    rw [State.startDrain_lastSequence] at moved
    cases queue : s.pwq with
    | nil => simp only [State.grantPosition, State.startDrain, queue]; rw [← queue]; exact .same
    | cons h rest => simp only [State.grantPosition, State.startDrain, queue]; exact .startDrain queue
  | fetch =>
    have same : (s.grantPosition .fetch).pwq = s.pwq := by
      rw [State.grantPosition]; exact State.startFetch_pwq ..
    rw [same]; exact .same

theorem State.grantStream_queue (s : State) (stream : Stream) :
    QueueMove s (s.grantStream stream).pwq (s.grantStream stream).lastSequence := by
  rw [State.grantStream_lastSequence]
  unfold State.grantStream
  cases stream with
  | drain =>
    simp only []
    split
    · have moved := s.startDrain_queue
      rw [State.startDrain_lastSequence] at moved
      exact moved
    · exact .same
  | fetch =>
    simp only []
    split
    · rw [State.startTransaction]; simp only [State.startFetch_pwq]; exact .same
    · exact .same

theorem Move.queue {k : MoveKind} (h : Move s k t) : QueueMove s t.pwq t.lastSequence := by
  cases h with
  | grantPosition => exact s.grantPosition_queue _
  | grantStream => exact s.grantStream_queue _
  | accept _ _ room => exact .accept room
  | popHead _ queued => rw [State.leaveIdle_pwq, State.leaveIdle_lastSequence]; exact .pop queued
  | leaveIdle | fetched | refetch | dropFetched => rw [State.leaveIdle_pwq, State.leaveIdle_lastSequence]; exact .same
  | resetInputs => rw [State.releaseReset_pwq, State.releaseReset_lastSequence]; exact .same
  | port | choose | allocate | orphan | vacate | dismiss | disable | grantClaim | dropClaim | transaction | drive
  | memory | tick => exact .same

/-- R59: sequences in unbroken order, and one more. -/
theorem sequencesEndAt_append {last : BitVec 16} {q : List PostedWrite} {w : PostedWrite} (h : sequencesEndAt last q = true)
    (next : w.sequence = last + 1) : sequencesEndAt (last + 1) (q ++ [w]) = true := by
  induction q with
  | nil => simpa [sequencesEndAt] using next
  | cons a q ih =>
    cases q with
    | nil =>
      simp only [sequencesEndAt, beq_iff_eq] at h
      simp [sequencesEndAt, next, h]
    | cons b q =>
      simp only [sequencesEndAt, Bool.and_eq_true] at h
      have more := ih h.2
      simp only [List.cons_append] at more ⊢
      simp only [sequencesEndAt, Bool.and_eq_true]
      exact ⟨h.1, more⟩

theorem sequencesEndAt_tail {last : BitVec 16} {h : PostedWrite} {rest : List PostedWrite}
    (ok : sequencesEndAt last (h :: rest) = true) : sequencesEndAt last rest = true := by
  cases rest with
  | nil => rfl
  | cons w rest => rw [sequencesEndAt, Bool.and_eq_true] at ok; exact ok.2

theorem sequencesEndAt_head {last : BitVec 16} {h h' : PostedWrite} {rest : List PostedWrite}
    (same : h'.sequence = h.sequence) : sequencesEndAt last (h' :: rest) = sequencesEndAt last (h :: rest) := by
  cases rest <;> simp [sequencesEndAt, same]

theorem QueueMove.queueOk {last : BitVec 16} (ok : s.queueOk) (h : QueueMove s q last) :
    q.length ≤ Config.queueLimit ∧ (∀ p : PortId, q.countP (fun w => w.source == p) ≤ Config.portQueueLimit) ∧
      sequencesEndAt last q = true ∧ ∀ w ∈ q.tail, w.inFlight = false := by
  obtain ⟨length, each, sequences, flying⟩ := ok
  cases h with
  | same => exact ⟨length, each, sequences, flying⟩
  | @startDrain h rest queued =>
    rw [queued] at length sequences flying
    refine ⟨length, fun p => ?_, (sequencesEndAt_head (h := h) (h' := { h with inFlight := true }) rfl).trans sequences,
      flying⟩
    have was := each p
    rw [State.queueCount, queued, List.countP_cons] at was
    rw [List.countP_cons]
    exact was
  | @accept p addr data w room =>
    rw [State.queueRoom, Bool.and_eq_true, decide_eq_true_iff, decide_eq_true_iff] at room
    rw [State.accept_pwq]
    refine ⟨?_, fun r => ?_, sequencesEndAt_append sequences rfl, fun x hx => ?_⟩
    · rw [List.length_append, List.length_singleton]; omega
    · rw [List.countP_append, List.countP_singleton]
      have was := each r
      rw [State.queueCount] at was
      split
      · rename_i own
        obtain rfl : p = r := beq_iff_eq.mp own
        have free := room.2
        rw [State.queueCount] at free
        omega
      · omega
    · cases queue : s.pwq with
      | nil => rw [queue] at hx; cases hx
      | cons h rest =>
        rw [queue] at hx flying
        obtain hx | hx := List.mem_append.mp hx
        · exact flying x hx
        · rw [List.mem_singleton.mp hx]
  | @pop h rest queued =>
    rw [queued] at length sequences flying
    refine ⟨?_, fun p => ?_, sequencesEndAt_tail sequences, fun w hw => flying w (List.mem_of_mem_tail hw)⟩
    · rw [List.length_cons] at length; omega
    · have was := each p
      rw [State.queueCount, queued, List.countP_cons] at was
      omega

theorem kept_queueOk : Kept State.queueOk where
  move s t ok h := h.queue.queueOk ok
  config s t ok h := by
    cases h with
    | reset => exact ⟨Nat.zero_le _, fun _ => Nat.zero_le _, rfl, nofun⟩
    | discardInterval | leaseInterval | timeout | enable | rights => exact ok
  pending _ _ ok := ok

/-! ## Fences (R67, R72, R86) -/

/-- R72, R67, R86: what is kept of one entry, under an occupancy of the queue. -/
def Entry.fenceOk (occupancy : Nat) (e : Entry) : Prop :=
  e.phase.fenceWithin occupancy ∧ e.fresh ≤ Config.freshLimit ∧ (e.kind ≠ .read → ∀ n, e.phase ≠ .fetching (some n))

/-- An entry that is given a phase without a fence of its own beyond the occupancy. -/
theorem Entry.fenceOk_phase {n : Nat} {e : Entry} {phase : Phase} (ok : e.fenceOk n) (within : phase.fenceWithin n)
    (bare : ∀ m, phase ≠ .fetching (some m)) : ({ e with phase := phase } : Entry).fenceOk n :=
  ⟨within, ok.2.1, fun _ => bare⟩

theorem Entry.fenceOk_overlapCheck {n : Nat} {e : Entry} (ok : e.fenceOk n) (r : Resource) (dest count : Nat) :
    (e.overlapCheck r dest count (n + 1)).fenceOk (n + 1) := by
  obtain ⟨within, fresh, bare⟩ := ok
  unfold Entry.overlapCheck
  split
  · rename_i acted
    simp only [Entry.actedOn, Bool.and_eq_true, decide_eq_true_iff] at acted
    refine ⟨?_, ?_, fun swap m => ?_⟩
    · cases phase : e.phase <;> simp [Phase.overtaken, Phase.fenceWithin]
    · have := acted.1.2; simp only []; omega
    · cases phase : e.phase with
      | fetching x => simp [phase, swap] at acted
      | _ => simp [Phase.overtaken]
  · refine ⟨?_, fresh, bare⟩
    revert within
    unfold Phase.fenceWithin
    split
    · exact Nat.le_succ_of_le
    · exact Nat.le_succ_of_le
    · exact id

theorem Entry.fenceOk_lowered {n : Nat} {e : Entry} (ok : e.fenceOk (n + 1)) : e.lowered.fenceOk n := by
  obtain ⟨within, fresh, bare⟩ := ok
  refine ⟨?_, fresh, fun swap m => ?_⟩
  · unfold Entry.lowered Phase.lowered
    cases phase : e.phase with
    | waiting m => rw [phase] at within; simp only [Phase.fenceWithin] at within ⊢; omega
    | fetching x =>
      cases x with
      | none => exact trivial
      | some m => rw [phase] at within; simp only [Phase.fenceWithin] at within ⊢; omega
    | ready => exact trivial
    | orphaned => exact trivial
  · unfold Entry.lowered Phase.lowered
    cases phase : e.phase with
    | fetching x =>
      cases x with
      | none => simp
      | some k => exact absurd phase (bare swap k)
    | _ => simp

theorem Entry.fenceOk_tick {n : Nat} {e : Entry} (ok : e.fenceOk n) : e.tick.fenceOk n := by
  unfold Entry.tick
  split
  · exact Entry.fenceOk_phase ok trivial nofun
  · exact ok

theorem TableMove.fencesOk (ok : s.fencesOk) (h : TableMove s d q) : ∀ e ∈ d, e.fenceOk q.length := by
  have all : ∀ e ∈ s.drt, e.fenceOk s.pwq.length := ok
  have phased : ∀ {tag : Tag} {phase : Phase}, phase.fenceWithin s.pwq.length → (∀ m, phase ≠ .fetching (some m)) →
      ∀ e ∈ (s.setPhase tag phase).drt, e.fenceOk s.pwq.length := fun within bare =>
    State.forall_setPhase all fun e he => Entry.fenceOk_phase (all e he) within bare
  cases h with
  | same => exact all
  | startDrain queued =>
    intro e he
    have was := all e he
    rw [queued] at was
    exact was
  | startFetch => exact phased trivial nofun
  | allocate =>
    intro e he
    obtain he | he := List.mem_append.mp he
    · exact all e he
    · rw [List.mem_singleton.mp he]; exact ⟨le_rfl, Nat.zero_le _, fun _ => nofun⟩
  | accept =>
    rw [State.accept_pwq, List.length_append, List.length_singleton]
    exact List.forall_mem_map.mpr fun e he => Entry.fenceOk_overlapCheck (all e he) _ _ _
  | orphan => exact phased trivial nofun
  | vacate => exact forall_vacate all
  | dismiss => exact forall_dismissedList all fun e he => Entry.fenceOk_phase (all e he) trivial nofun
  | popHead queued =>
    refine List.forall_mem_map.mpr fun e he => Entry.fenceOk_lowered ?_
    have was := all e he
    rw [queued, List.length_cons] at was
    exact was
  | fetched => exact phased trivial nofun
  | refetch he phase =>
    refine phased ?_ nofun
    have was := (all _ he).1
    rw [phase] at was
    exact was
  | tick => exact List.forall_mem_map.mpr fun e he => Entry.fenceOk_tick (all e he)

theorem kept_fencesOk : Kept State.fencesOk where
  move s t ok h := h.tables.fencesOk ok
  config s t ok h := by
    obtain ⟨drt, pwq⟩ | ⟨drt, pwq⟩ := h.tables
    · rw [State.fencesOk, drt, pwq]; exact ok
    · rw [State.fencesOk, drt]; exact nofun
  pending _ _ ok := ok

end

/-- Settles O55: the law of the queue and the law of the fences are kept by every move. -/
theorem queueAndFencesStayLegal : Obligations.QueueAndFencesStayLegal :=
  fun _ _ queue fences h => ⟨kept_queueOk.step queue h, kept_fencesOk.step fences h⟩

/-! ## The ordering guarantee (R35, R40, R64 to R67, R72) -/

section

variable {s t : State} {d : List Entry} {q : List PostedWrite}

/-- An entry is fenced behind each queued write that overlaps it, if it is a READ below the freshness limit. -/
def Entry.orderedIn (q : List PostedWrite) (e : Entry) : Prop :=
  e.kind = .read → e.fresh < Config.freshLimit → ∀ i w, q[i]? = some w → e.resource = w.resource →
    rangesOverlap e.dest e.count w.dest w.data.length = true → e.phase.fencedBehind i

/-- An entry that is given a phase that fences at least as much. -/
theorem Entry.orderedIn_phase {e : Entry} {phase : Phase} (ok : e.orderedIn q)
    (fences : ∀ i w, q[i]? = some w → e.phase.fencedBehind i → phase.fencedBehind i) :
    ({ e with phase := phase } : Entry).orderedIn q :=
  fun read fresh i w hw resource overlap => fences i w hw (ok read fresh i w hw resource overlap)

theorem Entry.orderedIn_overlapCheck {e : Entry} {w : PostedWrite} (ok : e.orderedIn q) :
    (e.overlapCheck w.resource w.dest w.data.length (q.length + 1)).orderedIn (q ++ [w]) := by
  intro read fresh i x hx resource overlap
  have place : i < q.length + 1 := by
    have := (List.getElem?_eq_some_iff.mp hx).1
    rwa [List.length_append, List.length_singleton] at this
  unfold Entry.overlapCheck at read fresh resource overlap ⊢
  split
  · rename_i acted
    cases phase : e.phase <;> simp [Phase.overtaken, Phase.fencedBehind, place]
  · rename_i left
    rw [if_neg left] at read fresh resource overlap
    by_cases old : i < q.length
    · rw [List.getElem?_append_left old] at hx
      exact ok read fresh i x hx resource overlap
    · have last : x = w := by
        have : i = q.length := by omega
        subst this
        simpa using hx.symm
      subst last
      cases phase : e.phase with
      | orphaned => trivial
      | _ => exact absurd (by simp [Entry.actedOn, resource, overlap, fresh, read, phase]) left

theorem Entry.orderedIn_lowered {e : Entry} {h : PostedWrite} {rest : List PostedWrite} (ok : e.orderedIn (h :: rest)) :
    e.lowered.orderedIn rest := by
  intro read fresh i w hw resource overlap
  have was := ok read fresh (i + 1) w hw resource overlap
  unfold Entry.lowered Phase.lowered
  cases phase : e.phase with
  | waiting n => rw [phase] at was; simp only [Phase.fencedBehind] at was ⊢; omega
  | fetching x =>
    rw [phase] at was
    cases x with
    | none => exact was
    | some n => simp only [Phase.fencedBehind] at was ⊢; omega
  | ready => rw [phase] at was; exact was
  | orphaned => trivial

theorem Entry.orderedIn_tick {e : Entry} (ok : e.orderedIn q) : e.tick.orderedIn q := by
  unfold Entry.tick
  split
  · rename_i phase
    refine Entry.orderedIn_phase ok fun i w _ was => ?_
    rw [phase] at was
    exact was
  · exact ok

theorem TableMove.ordered (distinct : s.tagsDistinct) (all : ∀ e ∈ s.drt, e.orderedIn s.pwq) (h : TableMove s d q) :
    ∀ e ∈ d, e.orderedIn q := by
  have phased : ∀ {e : Entry} {phase : Phase}, e ∈ s.drt →
      (∀ i w, s.pwq[i]? = some w → e.phase.fencedBehind i → phase.fencedBehind i) →
      ∀ x ∈ (s.setPhase e.tag phase).drt, x.orderedIn s.pwq := by
    intro e phase he fences x hx
    obtain rfl | hx := State.mem_setPhase_of_mem distinct he hx
    · exact Entry.orderedIn_phase (all e he) fences
    · exact all x hx
  cases h with
  | same => exact all
  | @startDrain h rest queued =>
    intro e he read fresh i w hw resource overlap
    have was := all e he
    rw [queued] at was
    cases i with
    | zero => cases hw; exact was read fresh 0 h rfl resource overlap
    | succ i => exact was read fresh (i + 1) w hw resource overlap
  | @startFetch r e found =>
    refine phased (List.mem_of_find?_eq_some found) fun i w _ was => ?_
    have eligible := List.find?_some found
    rw [Entry.eligible, Bool.and_eq_true, beq_iff_eq, beq_iff_eq] at eligible
    rw [eligible.2] at was
    exact absurd was (Nat.not_lt_zero i)
  | allocate =>
    intro e he
    obtain he | he := List.mem_append.mp he
    · exact all e he
    · rw [List.mem_singleton.mp he]
      exact fun _ _ i w hw _ _ => (List.getElem?_eq_some_iff.mp hw).1
  | accept =>
    rw [State.accept_pwq]
    exact List.forall_mem_map.mpr fun e he => Entry.orderedIn_overlapCheck (all e he)
  | orphan he => exact phased he fun _ _ _ _ => trivial
  | vacate => exact forall_vacate all
  | dismiss =>
    exact forall_dismissedList all fun e he => Entry.orderedIn_phase (all e he) fun _ _ _ _ => trivial
  | popHead queued =>
    refine List.forall_mem_map.mpr fun e he => ?_
    have was := all e he
    rw [queued] at was
    exact Entry.orderedIn_lowered was
  | fetched _ he phase =>
    refine phased he fun i w _ was => ?_
    rw [phase] at was
    exact was
  | refetch he phase =>
    refine phased he fun i w _ was => ?_
    rw [phase] at was
    exact was
  | tick => exact List.forall_mem_map.mpr fun e he => Entry.orderedIn_tick (all e he)

theorem kept_readsOrdered : Kept (fun s => s.tagsDistinct ∧ s.readsOrdered) where
  move s t ok h := ⟨kept_tagsDistinct.move s t ok.1 h, h.tables.ordered ok.1 ok.2⟩
  config s t ok h := by
    refine ⟨kept_tagsDistinct.config s t ok.1 h, ?_⟩
    obtain ⟨drt, pwq⟩ | ⟨drt, pwq⟩ := h.tables
    · rw [State.readsOrdered, drt, pwq]; exact ok.2
    · rw [State.readsOrdered, drt]; exact nofun
  pending _ _ ok := ok

end

/-- Settles O58: a move that ends a fence of an entry, or lets a write come, leaves the entry behind the writes that overlap it. -/
theorem readsStayOrdered : Obligations.ReadsStayOrdered :=
  fun _ _ distinct ordered h => kept_readsOrdered.step ⟨distinct, ordered⟩ h

end Sys2Proof.Machine
end

section
/-! SUPPORT. What the store and the bus are busy with stays in its table, and every destination range inside its resource; so
that no access runs outside the store. -/

/- The proofs are checked one after another: each that waits for the kernel holds the stack of a thread. -/
set_option Elab.async false

namespace Sys2Proof.Machine

/-! ## Destination ranges (R3, R8) -/

section

variable {s t : State} {addr count : Nat} {w : WindowId}

theorem State.lookup_holds (h : s.lookup addr = some w) : (s.window w).holdsAddress addr = true := by
  unfold State.lookup at h
  split at h
  · rename_i v found
    have holds := List.find?_some found
    split at h
    · cases h; exact holds
    · cases h
  · cases h

/-- R1, R3: a window and the blocks of its range. -/
theorem Window.blocks_of_fieldsOk {win : Window} (ok : win.fieldsOk) :
    ∃ m, win.bridgeBase + win.size = Config.blockSize * m := by
  obtain ⟨size, base, -⟩ := ok
  obtain ⟨k, -, power⟩ := isWindowSize_iff.mp size
  obtain ⟨j, multiple⟩ := Nat.dvd_of_mod_eq_zero base
  refine ⟨2 ^ (4 + k) * (j + 1), ?_⟩
  rw [multiple, power, Config.blockSize, show 12 + k = 8 + (4 + k) by omega, pow_add 2 8]
  ring

/-- R8: the bytes that a request reaches lie within the resource of the window. -/
theorem State.reaches_inside (fields : s.windowFieldsOk) (h : s.reaches addr count w) :
    (s.window w).translate addr + count ≤ (s.window w).resource.size := by
  obtain ⟨found, within⟩ := h
  have holds := State.lookup_holds found
  obtain ⟨m, blocks⟩ := Window.blocks_of_fieldsOk (fields.1 w)
  obtain ⟨-, -, -, -, inside⟩ := fields.1 w
  simp only [Window.holdsAddress, Bool.and_eq_true, decide_eq_true_iff] at holds
  rw [withinBlock, decide_eq_true_iff, Config.blockSize] at within
  simp only [Config.blockSize] at blocks
  rw [Window.translate]
  omega

/-- R8, R83: the law of the ranges, for one entry. -/
def Entry.rangeOk (e : Entry) : Prop :=
  e.dest + e.count ≤ e.resource.size ∧ (e.kind ≠ .read → e.count = 8)

/-- R8, R95: the law of the ranges, for the read in hand of a port. -/
def Port.rangeOk (port : Port) : Prop :=
  ∀ r ∈ port.readInHand, r.offset + r.count ≤ Config.storeSize

theorem PortMove.keeps_range {p : PortId} {port' : Port} (fields : s.windowFieldsOk) {k : MoveKind} (h : PortMove s p k port')
    (ok : (s.port p).rangeOk) : port'.rangeOk := by
  cases h with
  | send => rw [Port.rangeOk, Port.send_readInHand]; exact ok
  | offer r => rw [Port.offer_frame]; exact ok
  | read _ _ reach store =>
    intro r hr
    cases hr
    have inside := State.reaches_inside fields reach
    rw [store] at inside
    exact inside
  | answer | linkUp | unlink | unlinkTorn => exact nofun
  | undrop | receive | join | detach | linkFault | pop | stage | wviewSel | tviewSel | attn => exact ok

theorem TableMove.entries_inside {d : List Entry} {q : List PostedWrite} (distinct : s.tagsDistinct)
    (fields : s.windowFieldsOk) (ok : ∀ e ∈ s.drt, e.rangeOk) (h : TableMove s d q) : ∀ e ∈ d, e.rangeOk := by
  obtain ⟨P, f, rfl, becomes⟩ | ⟨tag, p, kind, addr, count, w, -, -, -, -, reach, swap, rfl⟩ := h.entries distinct
  · refine List.forall_mem_map.mpr fun e he => ?_
    have he := (List.mem_filter.mp he).1
    rw [(becomes e he).1]
    exact ok e he
  · intro e he
    obtain he | he := List.mem_append.mp he
    · exact ok e he
    · rw [List.mem_singleton.mp he]
      exact ⟨State.reaches_inside fields reach, swap⟩

theorem TableMove.writes_inside {d : List Entry} {q : List PostedWrite} (fields : s.windowFieldsOk)
    (ok : ∀ w ∈ s.pwq, w.dest + w.data.length ≤ w.resource.size) (h : TableMove s d q) :
    ∀ w ∈ q, w.dest + w.data.length ≤ w.resource.size := by
  cases h with
  | startDrain queued =>
    rw [queued] at ok
    obtain ⟨head, rest⟩ := List.forall_mem_cons.mp ok
    exact List.forall_mem_cons.mpr ⟨head, rest⟩
  | accept _ reach =>
    intro w hw
    rw [State.accept_pwq] at hw
    obtain hw | hw := List.mem_append.mp hw
    · exact ok w hw
    · rw [List.mem_singleton.mp hw]
      exact State.reaches_inside fields reach
  | popHead queued =>
    rw [queued] at ok
    exact fun w hw => ok w (List.mem_cons_of_mem _ hw)
  | same | startFetch | allocate | orphan | vacate | dismiss | fetched | refetch | tick => exact ok

theorem Move.rangesOk (distinct : s.tagsDistinct) (fields : s.windowFieldsOk) (ok : s.rangesOk) {k : MoveKind} (h : Move s k t) :
    t.rangesOk := by
  obtain ⟨entries, writes, reads⟩ := ok
  refine ⟨h.tables.entries_inside distinct fields entries, h.tables.writes_inside fields writes, fun p => ?_⟩
  obtain same | move := h.port_cases p
  · rw [same]; exact reads p
  · exact move.keeps_range fields (reads p)

end

/-! ## What the agents serve (R37, R69, R70, R109) -/

/-- R37: an entry that is FETCHING or ORPHANED on a resource, with a destination and a count. -/
def servedIn (d : List Entry) (r : Resource) (P : Nat → Nat → Prop) : Prop :=
  ∃ e ∈ d, e.occupies r = true ∧ P e.dest e.count

/-- R70: the head of the queue is in flight at a resource, with a destination and a count. -/
def flyingAt (q : List PostedWrite) (r : Resource) (P : Nat → Nat → Prop) : Prop :=
  ∃ h ∈ q.head?, h.resource = r ∧ h.inFlight = true ∧ P h.dest h.data.length

section

variable {s t : State} {r r' : Resource} {P : Nat → Nat → Prop} {d : List Entry}

theorem State.agentsOk_iff : s.agentsOk ↔
    (s.store = some .drain → flyingAt s.pwq .ls fun _ _ => True) ∧
    (s.store = some .fetch → servedIn s.drt .ls fun _ _ => True) ∧
    (∀ b, s.xbm.bus = .active b → b.stream = .drain → flyingAt s.pwq .xb fun a n => b.address = a ∧ b.count = n) ∧
    ∀ b, s.xbm.bus = .active b → b.stream = .fetch → servedIn s.drt .xb fun a n => b.address = a ∧ b.count = n := by
  simp only [State.agentsOk, flyingAt, servedIn, and_true]

/-- Entries that change and still occupy their resource are still served. -/
theorem servedIn_map {f : Entry → Entry} (h : servedIn d r P)
    (keeps : ∀ e ∈ d, e.occupies r = true → (f e).occupies r = true ∧ (f e).dest = e.dest ∧ (f e).count = e.count) :
    servedIn (d.map f) r P := by
  obtain ⟨e, he, occupies, hP⟩ := h
  obtain ⟨occupies', dest, count⟩ := keeps e he occupies
  exact ⟨f e, List.mem_map_of_mem he, occupies', by rw [dest, count]; exact hP⟩

/-- An entry that is served is not one that leaves its state elsewhere. -/
theorem servedIn_setPhase {e : Entry} {phase : Phase} (distinct : s.tagsDistinct) (he : e ∈ s.drt)
    (keeps : e.occupies r = true → ({ e with phase := phase } : Entry).occupies r = true) (h : servedIn s.drt r P) :
    servedIn (s.setPhase e.tag phase).drt r P := by
  refine servedIn_map h fun x hx occupies => ?_
  split
  · rename_i tag
    rw [State.eq_of_tag distinct hx he tag] at occupies ⊢
    exact ⟨keeps occupies, rfl, rfl⟩
  · exact ⟨occupies, rfl, rfl⟩

theorem servedIn_vacate {e : Entry} (distinct : s.tagsDistinct) (he : e ∈ s.drt) (free : e.occupies r = false)
    (h : servedIn s.drt r P) : servedIn (s.vacate e).drt r P := by
  obtain ⟨x, hx, occupies, hP⟩ := h
  refine ⟨x, List.mem_filter.mpr ⟨hx, ?_⟩, occupies, hP⟩
  rw [bne_iff_ne]
  intro tag
  rw [State.eq_of_tag distinct hx he tag, free] at occupies
  cases occupies

theorem servedIn_dismissed {Q : Entry → Bool} (distinct : s.tagsDistinct) (h : servedIn s.drt r P) :
    servedIn (dismissedList s.drt Q) r P := by
  rw [dismissedList, foldl_dismissFrom_filter distinct]
  obtain ⟨x, hx, occupies, hP⟩ := h
  have busy : x.phase.idle = false := by
    have := (Entry.occupies_iff.mp occupies).2
    cases phase : x.phase <;> simp [phase, Phase.idle, Phase.fetches] at this ⊢
  refine servedIn_map ⟨x, List.mem_filter.mpr ⟨hx, by simp [busy]⟩, occupies, hP⟩ fun e _ occupies => ?_
  split
  · exact ⟨Entry.occupies_iff.mpr ⟨(Entry.occupies_iff.mp occupies).1, .inr rfl⟩, rfl, rfl⟩
  · exact ⟨occupies, rfl, rfl⟩

theorem Entry.overlapCheck_occupies {e : Entry} {x : Resource} {dest count occupancy : Nat} (h : e.occupies r = true) :
    (e.overlapCheck x dest count occupancy).occupies r = true ∧ (e.overlapCheck x dest count occupancy).dest = e.dest ∧
      (e.overlapCheck x dest count occupancy).count = e.count := by
  unfold Entry.overlapCheck
  split
  · refine ⟨?_, rfl, rfl⟩
    rw [Entry.occupies_iff] at h ⊢
    refine ⟨h.1, ?_⟩
    cases phase : e.phase <;> simp [phase, Phase.overtaken, Phase.fetches] at h ⊢
  · exact ⟨h, rfl, rfl⟩

theorem Entry.lowered_occupies {e : Entry} (h : e.occupies r = true) :
    e.lowered.occupies r = true ∧ e.lowered.dest = e.dest ∧ e.lowered.count = e.count := by
  refine ⟨?_, rfl, rfl⟩
  rw [Entry.occupies_iff] at h ⊢
  refine ⟨h.1, ?_⟩
  unfold Entry.lowered Phase.lowered
  obtain ⟨-, fetches | gone⟩ := h
  · cases phase : e.phase with
    | fetching x => cases x <;> exact .inl rfl
    | _ => rw [phase] at fetches; cases fetches
  · rw [gone]; exact .inr rfl

theorem Entry.tick_occupies {e : Entry} (h : e.occupies r = true) :
    e.tick.occupies r = true ∧ e.tick.dest = e.dest ∧ e.tick.count = e.count := by
  unfold Entry.tick
  split
  · rename_i phase
    have := (Entry.occupies_iff.mp h).2
    simp [phase, Phase.fetches] at this
  · exact ⟨h, rfl, rfl⟩

/-- A write that joins the tail leaves the head alone. -/
theorem flyingAt_append {q : List PostedWrite} (h : flyingAt q r P) (w : PostedWrite) : flyingAt (q ++ [w]) r P := by
  obtain ⟨h, hh, rest⟩ := h
  cases q with
  | nil => cases hh
  | cons a q => exact ⟨h, hh, rest⟩

theorem flyingAt_resource {P' : Nat → Nat → Prop} {q : List PostedWrite} (h : flyingAt q r P) (h' : flyingAt q r' P') :
    r = r' := by
  obtain ⟨h, hh, resource, -⟩ := h
  obtain ⟨h', hh', resource', -⟩ := h'
  cases hh.symm.trans hh'
  exact resource.symm.trans resource'

/-- R69: what requests a drain is not in flight. -/
theorem not_flyingAt_of_requests (requests : s.drainRequests r = true) : ¬flyingAt s.pwq r' P := by
  rintro ⟨h, hh, -, flying, -⟩
  unfold State.drainRequests at requests
  split at requests
  · cases requests
  · rename_i queued
    rw [queued] at hh
    cases hh
    simp [flying] at requests

/-- R69, R70: the head that requests is in flight once its drain has started. -/
theorem flyingAt_startDrain (requests : s.drainRequests r = true) {h : PostedWrite} {rest : List PostedWrite}
    (queued : s.pwq = h :: rest) (hP : P h.dest h.data.length) : flyingAt s.startDrain.pwq r P := by
  simp only [State.drainRequests, queued, Bool.and_eq_true, beq_iff_eq] at requests
  simp only [State.startDrain, queued]
  exact ⟨_, rfl, requests.1, rfl, hP⟩

theorem servedIn_startFetch (distinct : s.tagsDistinct) (h : servedIn s.drt r P) : servedIn (s.startFetch r').drt r P := by
  unfold State.startFetch
  split
  · rename_i e found
    refine servedIn_setPhase distinct (List.mem_of_find?_eq_some found) (fun occupies => ?_) h
    rw [Entry.not_occupies_of_eligible (List.find?_some found)] at occupies
    cases occupies
  · exact h

/-- R37: the entry whose fetch starts. -/
theorem servedIn_started {e : Entry} (found : s.drt.find? (Entry.eligible r) = some e) (hP : P e.dest e.count) :
    servedIn (s.startFetch r).drt r P := by
  have eligible := List.find?_some found
  rw [Entry.eligible, Bool.and_eq_true, beq_iff_eq] at eligible
  simp only [State.startFetch, found]
  exact ⟨{ e with phase := .fetching none },
    State.mem_setPhase.mpr ⟨e, List.mem_of_find?_eq_some found, (if_pos rfl).symm⟩,
    Entry.occupies_iff.mpr ⟨eligible.1, .inl rfl⟩, hP⟩

/-- An entry of another resource does not occupy this one. -/
theorem not_occupies_of_fetchedEntry {e : Entry} (found : s.fetchedEntry r = some e) (other : r' ≠ r) :
    e.occupies r' = false := by
  have occupies : e.occupies r = true := List.find?_some found
  refine Bool.eq_false_iff.mpr fun occupies' => other ?_
  exact (Entry.occupies_iff.mp occupies').1.symm.trans (Entry.occupies_iff.mp occupies).1

end

section

variable {s t : State}

theorem State.agentsOk_grantPosition {pos : Position} (distinct : s.tagsDistinct)
    (requests : s.positionRequests pos = true) (ok : s.agentsOk) : (s.grantPosition pos).agentsOk := by
  rw [State.agentsOk_iff] at ok ⊢
  obtain ⟨-, -, drains, fetches⟩ := ok
  cases pos with
  | port p => exact ⟨nofun, nofun, drains, fetches⟩
  | drain =>
    obtain ⟨h, rest, queued⟩ : ∃ h rest, s.pwq = h :: rest := by
      refine List.exists_cons_of_ne_nil fun empty => ?_
      simp [State.positionRequests, State.drainRequests, empty] at requests
    have flying := flyingAt_startDrain (s := { s with store := some .drain, lastPosition := .drain }) (r := .ls)
      (P := fun _ _ => True) requests queued trivial
    rw [State.grantPosition]
    simp only [State.startDrain_store, State.startDrain_drt, State.startDrain_xbm]
    refine ⟨fun _ => flying, nofun, fun b active stream => ?_, fetches⟩
    exact absurd (drains b active stream) (not_flyingAt_of_requests requests)
  | fetch =>
    obtain ⟨e, found⟩ := State.eligible_of_fetchRequests requests
    rw [State.grantPosition]
    simp only [State.startFetch_store, State.startFetch_pwq, State.startFetch_xbm]
    refine ⟨nofun, fun _ => ?_, drains, fun b active stream => ?_⟩
    · exact servedIn_started (s := { s with store := some .fetch, lastPosition := .fetch }) found trivial
    · exact servedIn_startFetch (s := { s with store := some .fetch, lastPosition := .fetch }) distinct
        (fetches b active stream)

theorem State.agentsOk_grantStream {stream : Stream} (distinct : s.tagsDistinct)
    (requests : s.streamRequests stream = true) (ok : s.agentsOk) : (s.grantStream stream).agentsOk := by
  rw [State.agentsOk_iff] at ok ⊢
  obtain ⟨drain, fetch, -, -⟩ := ok
  cases stream with
  | drain =>
    obtain ⟨h, rest, queued⟩ : ∃ h rest, s.pwq = h :: rest := by
      refine List.exists_cons_of_ne_nil fun empty => ?_
      simp [State.streamRequests, State.drainRequests, empty] at requests
    simp only [State.grantStream, queued, State.startTransaction, State.startDrain_store, State.startDrain_drt]
    refine ⟨fun busy => absurd (drain busy) (not_flyingAt_of_requests requests), fetch, fun b active _ => ?_, ?_⟩
    · cases active
      exact flyingAt_startDrain requests queued ⟨rfl, rfl⟩
    · rintro b ⟨⟩ ⟨⟩
  | fetch =>
    obtain ⟨e, found⟩ := State.eligible_of_fetchRequests requests
    simp only [State.grantStream, found, State.startTransaction, State.startFetch_store, State.startFetch_pwq]
    refine ⟨drain, fun busy => servedIn_startFetch distinct (fetch busy), ?_, fun b active _ => ?_⟩
    · rintro b ⟨⟩ ⟨⟩
    · cases active
      exact servedIn_started found ⟨rfl, rfl⟩

/-- A table that still serves what it served leaves the agents as they were. -/
theorem State.agentsOk_of_tables {u : State} (ok : s.agentsOk) (store : u.store = s.store) (xbm : u.xbm.bus = s.xbm.bus)
    (flies : ∀ r P, flyingAt s.pwq r P → flyingAt u.pwq r P) (serves : ∀ r P, servedIn s.drt r P → servedIn u.drt r P) :
    u.agentsOk := by
  rw [State.agentsOk_iff] at ok ⊢
  obtain ⟨drain, fetch, drains, fetches⟩ := ok
  rw [store, xbm]
  exact ⟨fun busy => flies _ _ (drain busy), fun busy => serves _ _ (fetch busy),
    fun b active stream => flies _ _ (drains b active stream), fun b active stream => serves _ _ (fetches b active stream)⟩

/-- A drain that ends leaves its agent idle, and what the other agent serves alone. -/
theorem State.agentsOk_endDrain {u : State} {r : Resource} (ok : s.agentsOk) (busy : s.serves r .drain)
    (store : u.store = s.store) (xbm : u.xbm = s.xbm) (serves : ∀ r P, servedIn s.drt r P → servedIn u.drt r P) :
    (u.leaveIdle r).agentsOk := by
  rw [State.agentsOk_iff] at ok ⊢
  obtain ⟨drain, fetch, drains, fetches⟩ := ok
  cases r with
  | ls =>
    refine ⟨nofun, nofun, fun b active stream => ?_, fun b active stream => ?_⟩
    · exact absurd (flyingAt_resource (drain busy) (drains b ((congrArg Xbm.bus xbm).symm.trans active) stream)) (by simp)
    · exact serves _ _ (fetches b ((congrArg Xbm.bus xbm).symm.trans active) stream)
  | xb =>
    obtain ⟨b, active, stream⟩ := busy
    refine ⟨fun busy => ?_, fun busy => serves _ _ (fetch (store.symm.trans busy)), nofun, nofun⟩
    exact absurd (flyingAt_resource (drain (store.symm.trans busy)) (drains b active stream)) (by simp)

/-- A fetch that ends leaves its agent idle, and what the other agent serves alone. -/
theorem State.agentsOk_endFetch {u : State} {r : Resource} (ok : s.agentsOk) (busy : s.serves r .fetch)
    (store : u.store = s.store) (xbm : u.xbm = s.xbm) (pwq : u.pwq = s.pwq)
    (serves : ∀ r' P, r' ≠ r → servedIn s.drt r' P → servedIn u.drt r' P) : (u.leaveIdle r).agentsOk := by
  rw [State.agentsOk_iff] at ok ⊢
  obtain ⟨drain, fetch, drains, fetches⟩ := ok
  cases r with
  | ls =>
    refine ⟨nofun, nofun, fun b active stream => ?_, fun b active stream => ?_⟩
    · exact (congrArg (fun q => flyingAt q .xb fun a n => b.address = a ∧ b.count = n) pwq).mpr
        (drains b ((congrArg Xbm.bus xbm).symm.trans active) stream)
    · exact serves _ _ (by simp) (fetches b ((congrArg Xbm.bus xbm).symm.trans active) stream)
  | xb =>
    refine ⟨fun busy => ?_, fun busy => ?_, nofun, nofun⟩
    · exact (congrArg (fun q => flyingAt q .ls fun _ _ => True) pwq).mpr (drain (store.symm.trans busy))
    · exact serves _ _ (by simp) (fetch (store.symm.trans busy))

theorem Move.agentsOk (distinct : s.tagsDistinct) (ok : s.agentsOk) {k : MoveKind} (h : Move s k t) : t.agentsOk := by
  have fly : ∀ r P, flyingAt s.pwq r P → flyingAt s.pwq r P := fun _ _ => id
  have serve : ∀ r P, servedIn s.drt r P → servedIn s.drt r P := fun _ _ => id
  cases h with
  | grantPosition _ _ requests => exact State.agentsOk_grantPosition distinct requests ok
  | grantStream _ requests => exact State.agentsOk_grantStream distinct requests ok
  | allocate =>
    refine State.agentsOk_of_tables ok rfl rfl fly fun r P => ?_
    rintro ⟨e, he, rest⟩
    exact ⟨e, List.mem_append_left _ he, rest⟩
  | accept =>
    exact State.agentsOk_of_tables ok rfl rfl (fun r P h => flyingAt_append h _) fun r P h =>
      servedIn_map h fun e _ => Entry.overlapCheck_occupies
  | orphan he =>
    exact State.agentsOk_of_tables ok rfl rfl fly fun r P =>
      servedIn_setPhase distinct he fun occupies => Entry.occupies_iff.mpr ⟨(Entry.occupies_iff.mp occupies).1, .inr rfl⟩
  | @vacate e he idle =>
    refine State.agentsOk_of_tables ok rfl rfl fly fun r P => servedIn_vacate distinct he ?_
    refine Bool.eq_false_iff.mpr fun occupies => ?_
    have := (Entry.occupies_iff.mp occupies).2
    cases phase : e.phase <;> simp [phase, Phase.idle, Phase.fetches] at this idle
  | dismiss => exact State.agentsOk_of_tables ok rfl rfl fly fun r P => servedIn_dismissed distinct
  | @leaveIdle r busy =>
    rw [State.agentsOk_iff] at ok ⊢
    obtain ⟨drain, fetch, drains, fetches⟩ := ok
    cases r with
    | ls => exact ⟨nofun, nofun, drains, fetches⟩
    | xb => exact ⟨drain, fetch, nofun, nofun⟩
  | popHead busy =>
    exact State.agentsOk_endDrain ok busy rfl rfl fun r P h => servedIn_map h fun e _ => Entry.lowered_occupies
  | fetched _ busy found =>
    exact State.agentsOk_endFetch ok busy rfl rfl rfl fun r' P other =>
      servedIn_setPhase distinct (State.mem_of_fetchedEntry found) fun occupies => by
        rw [not_occupies_of_fetchedEntry found other] at occupies; cases occupies
  | refetch busy found =>
    exact State.agentsOk_endFetch ok busy rfl rfl rfl fun r' P other =>
      servedIn_setPhase distinct (State.mem_of_fetchedEntry found) fun occupies => by
        rw [not_occupies_of_fetchedEntry found other] at occupies; cases occupies
  | dropFetched busy found =>
    exact State.agentsOk_endFetch ok busy rfl rfl rfl fun r' P other =>
      servedIn_vacate distinct (State.mem_of_fetchedEntry found) (not_occupies_of_fetchedEntry found other)
  | @transaction b b' active same =>
    rw [State.agentsOk_iff] at ok ⊢
    obtain ⟨drain, fetch, drains, fetches⟩ := ok
    have now : ∀ {x}, (s.setTransaction b').xbm.bus = .active x → x = b' := fun h => by cases h; rfl
    have stream : b'.stream = b.stream := by rw [same]
    have address : b'.address = b.address := by rw [same]
    have count : b'.count = b.count := by rw [same]
    refine ⟨drain, fetch, fun x hx hs => ?_, fun x hx hs => ?_⟩
    · rw [now hx, stream] at hs
      rw [now hx, address, count]
      exact drains b active hs
    · rw [now hx, stream] at hs
      rw [now hx, address, count]
      exact fetches b active hs
  | tick =>
    rw [State.agentsOk_iff] at ok ⊢
    obtain ⟨drain, fetch, drains, fetches⟩ := ok
    have ticks : ∀ {r P}, servedIn s.drt r P → servedIn s.tick.drt r P := fun h => servedIn_map h fun e _ => Entry.tick_occupies
    have was : ∀ {x}, s.tick.xbm.bus = .active x →
        ∃ b, s.xbm.bus = .active b ∧ x.stream = b.stream ∧ x.address = b.address ∧ x.count = b.count := by
      intro x hx
      rw [State.tick] at hx
      cases bus : s.xbm.bus with
      | active b => rw [bus] at hx; cases hx; exact ⟨b, rfl, rfl, rfl, rfl⟩
      | idle => rw [bus] at hx; cases hx
      | reset => rw [bus] at hx; cases hx
    refine ⟨drain, fun busy => ticks (fetch busy), fun x hx hs => ?_, fun x hx hs => ?_⟩
    · obtain ⟨b, active, stream, address, count⟩ := was hx
      rw [address, count]
      exact drains b active (stream.symm.trans hs)
    · obtain ⟨b, active, stream, address, count⟩ := was hx
      rw [address, count]
      exact ticks (fetches b active (stream.symm.trans hs))
  | resetInputs =>
    unfold State.releaseReset
    split
    · exact State.agentsOk_of_tables ok rfl rfl fly serve
    · rw [State.agentsOk_iff] at ok ⊢
      exact ⟨ok.1, ok.2.1, nofun, nofun⟩
  | port | choose | disable | grantClaim | dropClaim | drive | memory =>
    exact State.agentsOk_of_tables ok rfl rfl fly serve

/-- What keeps every access inside the store. -/
def State.accessesOk (s : State) : Prop :=
  s.tagsDistinct ∧ s.windowFieldsOk ∧ s.agentsOk ∧ s.rangesOk

theorem kept_accessesOk : Kept State.accessesOk where
  move s t ok h := by
    obtain ⟨distinct, fields, agents, ranges⟩ := ok
    exact ⟨kept_tagsDistinct.move s t distinct h, kept_windowFieldsOk.move s t fields h, h.agentsOk distinct agents,
      h.rangesOk distinct fields ranges⟩
  config s t ok h := by
    obtain ⟨distinct, fields, agents, ranges⟩ := ok
    refine ⟨kept_tagsDistinct.config s t distinct h, kept_windowFieldsOk.config s t fields h, ?_, ?_⟩
    · cases h with
      | reset => exact ⟨nofun, nofun, nofun, nofun⟩
      | discardInterval | leaseInterval | timeout | enable | rights => exact agents
    · cases h with
      | reset input clearing mem =>
        refine ⟨nofun, nofun, fun p => ?_⟩
        have cleared : (s.clearDevice.port p).readInHand = none := by simp [State.port, State.clearDevice, Port.reset, Port.readInHand]
        exact fun r hr => by cases cleared.symm.trans hr
      | discardInterval | leaseInterval | timeout | enable | rights => exact ranges
  pending _ _ ok := ok

/-- R95: the access in progress lies within the store. -/
theorem State.accessInStore_of_accessesOk {pos : Position} (ok : s.accessesOk) (busy : s.store = some pos) :
    s.accessInStore pos = true := by
  obtain ⟨-, -, agents, entries, writes, reads⟩ := ok
  have none : (0, 0).1 + (0, 0).2 ≤ Config.storeSize := by decide
  rw [State.accessInStore, decide_eq_true_iff]
  cases pos with
  | port p =>
    simp only [State.accessRange]
    split
    · rename_i r held _; exact reads p r held
    · exact none
  | drain =>
    obtain ⟨h, hh, resource, -⟩ := agents.1 busy
    cases queued : s.pwq with
    | nil => rw [queued] at hh; cases hh
    | cons h' rest =>
      rw [queued] at hh
      cases hh
      have inside := writes h (by rw [queued]; exact List.mem_cons_self)
      rw [resource] at inside
      simp only [State.accessRange, queued]
      exact inside
  | fetch =>
    simp only [State.accessRange]
    split
    · rename_i e found
      obtain ⟨inside, swap⟩ := entries e (State.mem_of_fetchedEntry found)
      have occupies : e.occupies .ls = true := List.find?_some found
      rw [(Entry.occupies_iff.mp occupies).1] at inside
      split
      · exact inside
      · rename_i kind
        rw [swap (by rw [kind]; nofun)] at inside
        exact inside
    · exact none

end

/-- Settles O59: the laws of the accesses are kept by every move, and under them the completion of an access does not stop. -/
theorem accessesStayInside : Obligations.AccessesStayInside := by
  intro s distinct fields agents ranges
  have ok : s.accessesOk := ⟨distinct, fields, agents, ranges⟩
  have answered : ∃ t, step s = .next t := by
    unfold step
    split
    · exact ⟨_, rfl⟩
    · rename_i c rest queued
      by_cases completion : c = .lsAccessCompletion
      · subst completion
        obtain next | ⟨pos, busy, outside, -⟩ := exec_lsAccessCompletion_cases { s with pending := rest }
        · exact next
        · have later := kept_accessesOk.runs (L := .all True) (runs_atOnce _ trivial) (kept_accessesOk.pending s rest ok)
          rw [State.accessInStore_of_accessesOk later busy] at outside
          cases outside
      · exact exec_next completion _
  obtain ⟨t, h⟩ := answered
  obtain ⟨-, -, agents', ranges'⟩ := kept_accessesOk.step ok h
  exact ⟨t, h, agents', ranges'⟩

end Sys2Proof.Machine
end

section
/-! SUPPORT. The step of the machine, the state of reset, the shared operations of lookup, of the store's contents and of the
event queues; and the statements about them, the settings, the lease and the link. -/

/- The proofs are checked one after another: each that waits for the kernel holds the stack of a thread. -/
set_option Elab.async false

namespace Sys2Proof.Machine

/-! ## The step (assumptions 1, 5 and 11) -/

/-- Settles O1: the front command is carried out as it stands, and with no command the responses leave before the grants. -/
theorem stepRunsTheFrontCommand : Obligations.StepRunsTheFrontCommand := by
  refine ⟨fun c s => rfl, fun s empty => ⟨s.sendAll, ?_, rfl, fun p => ?_⟩⟩
  · unfold step
    rw [empty]
    rfl
  · rw [State.port_sendAll]
    cases held : (s.port p).inHand with
    | none => exact Port.send_of_none (by simp [Port.decided, held])
    | some h =>
      cases h with
      | read r => exact Port.send_of_none (by simp [Port.decided, held])
      | decided r => exact Port.send_of_decided held

/-! ## The state of reset (R4, R43, R59, R94, R98, R108, R116, R124, R145) -/

theorem State.port_reset (p : PortId) : State.reset.port p = Port.reset [] := by
  simp [State.port, State.reset]

theorem State.window_reset (w : WindowId) : State.reset.window w = Window.reset := by
  simp [State.window, State.reset]

/-- Settles O5: the fields of the state of reset, one by one. -/
theorem resetValues : Obligations.ResetValues :=
  ⟨State.port_reset, fun w => (State.window_reset w).trans (by decide), rfl, rfl, rfl, rfl, rfl, fun _ => rfl, rfl, rfl, rfl,
    rfl, rfl⟩

/-- Settles O6: the tables are empty, the windows DISABLED and the ports OFFLINE with nothing in them. -/
theorem resetMeetsTheLaws : Obligations.ResetMeetsTheLaws := by
  have disabled : ∀ w, (State.reset.window w).state = .disabled := fun w => congrArg Window.state (State.window_reset w)
  have ports : ∀ {P : Port → Prop}, P (Port.reset []) → ∀ p, P (State.reset.port p) := fun h p => by
    rw [State.port_reset]; exact h
  have noRead : ∀ pos, State.reset.positionRequests pos = false := by
    intro pos
    cases pos with
    | port p =>
      have none := congrArg Port.readInHand (State.port_reset p)
      rw [State.positionRequests, none]; rfl
    | drain => rfl
    | fetch => rfl
  exact {
    left := State.reset_storeCanonical
    right := ⟨fun v w _ hv => absurd (disabled v) hv,
      ⟨fun w => by rw [State.window_reset]; exact Window.fieldsOk_reset, 
        ports (P := fun port => port.staging.fieldsOk) Staging.fieldsOk_empty⟩,
      fun w => by rw [State.window_reset]; exact ⟨rfl, fun _ => rfl, nofun⟩,
      List.Pairwise.nil, List.Pairwise.nil, ⟨Nat.zero_le _, Nat.zero_le _⟩, nofun,
      ⟨fun _ => Nat.zero_le _, Nat.zero_le _⟩, ⟨Nat.zero_le _, fun _ => Nat.zero_le _, rfl, nofun⟩, nofun,
      ports (P := fun port => port.queueOk = true) rfl,
      fun p _ => ⟨nofun, ports (P := fun port => port.queue = [] ∧ port.staging = Staging.empty) ⟨rfl, rfl⟩ p⟩,
      ports (P := Port.bufferOk) ⟨Nat.zero_le _, nofun, fun _ => ⟨rfl, rfl⟩⟩,
      ports (P := Port.attnOk) allKinds_ok, settingsOk_reset, ⟨nofun, nofun, nofun⟩,
      ⟨⟨nofun, nofun⟩, nofun⟩, ⟨fun _ _ => noRead, fun _ => ⟨rfl, rfl⟩⟩, ⟨nofun, nofun, nofun, nofun⟩,
      ⟨nofun, nofun, ports (P := Port.rangeOk) nofun⟩, nofun⟩ }

/-! ## The lease and the link (R125, R151) -/

section

variable {s : State} {p : PortId}

theorem exec_leaseExpiry (rest : s.atRest) : exec .leaseExpiry s = .next s.expireDueLease := by
  change Host.Outcome.next s.atOnce.expireDueLease = _
  rw [State.atOnce_of_atRest rest]

theorem State.expireDueLease_of_due {h : Holding} (held : s.claim.held = some h) (due : h.due = true) :
    s.expireDueLease = s.expireLease h.holder := by
  simp only [State.expireDueLease, held, due, if_true]

theorem State.expireDueLease_of_not_due (not : ∀ h ∈ s.claim.held, h.due = false) : s.expireDueLease = s := by
  unfold State.expireDueLease
  split
  · rename_i h held; rw [not h held]; rfl
  · rfl

end

/-- Settles O10: the lease of the holder expires when its expiry is due. -/
theorem leaseExpiry : Obligations.LeaseExpiry := by
  refine ⟨fun s p n rest held => ?_, fun s rest not => ?_⟩
  · refine ⟨s.expireLease p, ?_, rfl, fun q => ?_⟩
    · rw [exec_leaseExpiry rest, State.expireDueLease_of_due held rfl]
    · rw [State.expireLease, State.port_broadcastExcept, State.port_offer]
      by_cases hq : q = p
      · subst hq; simp only [if_true]; rfl
      · simp only [if_neg hq]; rfl
  · rw [exec_leaseExpiry rest, State.expireDueLease_of_not_due not]

theorem exec_linkUp {s : State} {p : PortId} (rest : s.atRest) :
    exec (.linkUp p) s = .next (if s.linkOffered p = true then
      s.modifyPort p (fun port => { port with state := .attached, buffer := [], inHand := none }) else s) := by
  change execLinkUp p s = _
  simp only [execLinkUp, State.atOnce_of_atRest rest]

/-- Settles O11: a link comes up where it is offered, and nowhere else. -/
theorem linkUp : Obligations.LinkUp := by
  refine ⟨fun s p => ?_, fun s p rest offered => ?_, fun s p rest not => ?_⟩
  · simp [State.linkOffered, State.inReset]
  · have port := s.port_modifyPort p p (fun port => { port with state := .attached, buffer := [], inHand := none })
    rw [if_pos rfl] at port
    refine ⟨_, (exec_linkUp rest).trans (congrArg _ (if_pos offered)), rfl, port, by rw [port]; rfl, fun q hq => ?_⟩
    rw [State.port_modifyPort, if_neg hq]
  · exact (exec_linkUp rest).trans (congrArg _ (if_neg (by rw [not]; simp)))

/-! ## Lookup and matching (R7, R30) -/

section

variable {s : State}

theorem Window.holdsAddress_iff {win : Window} {addr : Nat} :
    win.holdsAddress addr = true ↔
      win.state ≠ .disabled ∧ win.bridgeBase ≤ addr ∧ addr < win.bridgeBase + win.size := by
  simp [Window.holdsAddress, and_assoc]

/-- R16: windows that are apart do not hold the same address. -/
theorem State.window_unique (apart : s.windowsDisjoint) {v w : WindowId} {addr : Nat}
    (hv : (s.window v).holdsAddress addr = true) (hw : (s.window w).holdsAddress addr = true) : v = w := by
  by_contra ne
  obtain ⟨stateV, lowV, highV⟩ := Window.holdsAddress_iff.mp hv
  obtain ⟨stateW, lowW, highW⟩ := Window.holdsAddress_iff.mp hw
  have clear := apart v w ne stateV stateW
  simp only [Window.overlaps, Bool.and_eq_false_iff, decide_eq_false_iff_not] at clear
  omega

theorem State.lookup_eq_some_iff (apart : s.windowsDisjoint) {addr : Nat} {w : WindowId} :
    s.lookup addr = some w ↔ (s.window w).state = .enabled ∧ (s.window w).bridgeBase ≤ addr ∧
      addr < (s.window w).bridgeBase + (s.window w).size := by
  refine ⟨fun found => ⟨State.lookup_enabled found, (Window.holdsAddress_iff.mp (State.lookup_holds found)).2⟩, ?_⟩
  rintro ⟨enabled, range⟩
  have holds : (s.window w).holdsAddress addr = true := Window.holdsAddress_iff.mpr ⟨by rw [enabled]; simp, range⟩
  have first : windowIds.find? (fun w => (s.window w).holdsAddress addr) = some w := by
    cases found : windowIds.find? (fun w => (s.window w).holdsAddress addr) with
    | none => exact absurd holds (List.find?_eq_none.mp found w (mem_windowIds w))
    | some v => 
      have holdsV : (s.window v).holdsAddress addr = true := by simpa using List.find?_some found
      rw [State.window_unique apart holdsV holds]
  simp only [State.lookup, first, enabled, beq_self_eq_true, if_true]

theorem Entry.matchesKey_iff {e : Entry} {p : PortId} {kind : EntryKind} {addr count : Nat} :
    e.matchesKey p kind addr count = true ↔
      e.phase ≠ .orphaned ∧ e.owner = p ∧ e.kind = kind ∧ e.addr = addr ∧ e.count = count := by
  simp [Entry.matchesKey, Entry.live, and_assoc]

theorem State.matchesKey_of_matching {p : PortId} {kind : EntryKind} {addr count : Nat} {e : Entry}
    (found : s.matching p kind addr count = some e) : e.matchesKey p kind addr count = true := by
  simpa using List.find?_some found

theorem State.matching_eq_some_iff (keys : s.keysDistinct) {p : PortId} {kind : EntryKind} {addr count : Nat} {e : Entry} :
    s.matching p kind addr count = some e ↔ e ∈ s.drt ∧ e.phase ≠ .orphaned ∧ e.owner = p ∧ e.kind = kind ∧
      e.addr = addr ∧ e.count = count := by
  rw [← Entry.matchesKey_iff]
  refine ⟨fun found => ⟨List.mem_of_find?_eq_some found, State.matchesKey_of_matching found⟩, fun ⟨he, matched⟩ => ?_⟩
  cases found : s.matching p kind addr count with
  | none => exact absurd matched (List.find?_eq_none.mp found e he)
  | some x =>
    by_contra differ
    have symm : Std.Symm (fun a b : Entry => a.live = true → b.live = true →
        ¬(a.owner = b.owner ∧ a.kind = b.kind ∧ a.addr = b.addr ∧ a.count = b.count)) :=
      ⟨fun a b h liveB liveA => fun ⟨owner, kind, addr, count⟩ =>
        h liveA liveB ⟨owner.symm, kind.symm, addr.symm, count.symm⟩⟩
    have matchedX : x.matchesKey p kind addr count = true := State.matchesKey_of_matching found
    obtain ⟨live, owner, kind, addr, count⟩ := Entry.matchesKey_iff.mp matched
    obtain ⟨liveX, ownerX, kindX, addrX, countX⟩ := Entry.matchesKey_iff.mp matchedX
    exact keys.forall (List.mem_of_find?_eq_some found) he (fun same => differ (congrArg some same))
      (by simpa [Entry.live] using liveX) (by simpa [Entry.live] using live)
      ⟨ownerX.trans owner.symm, kindX.trans kind.symm, addrX.trans addr.symm, countX.trans count.symm⟩

end

/-- Settles O46: where windows are apart and keys distinct, the first that is found is the only one. -/
theorem lookupAndMatching : Obligations.LookupAndMatching :=
  ⟨fun _ _ _ apart => State.lookup_eq_some_iff apart, fun _ _ _ _ _ _ keys => State.matching_eq_some_iff keys⟩

/-! ## The contents of the store (R94, R96) -/

theorem Memory.read_cell (k : Nat) (v : Byte) (rest : Memory) (a : Nat) :
    Memory.read ((k, v) :: rest) a = if k = a then v else Memory.read rest a := rfl

theorem Memory.read_cons (a b : Nat) (v : Byte) (rest : Memory) (blank : rest.read a = Memory.blank) :
    (Memory.cons a v rest).read b = if b = a then v else rest.read b := by
  unfold Memory.cons
  by_cases h : v = Memory.blank
  · rw [if_pos h]
    split
    · rename_i same; rw [same, h, blank]
    · rfl
  · rw [if_neg h, Memory.read]
    exact if_congr eq_comm rfl rfl

/-- A list in canonical form from an offset on reads as nothing below it. -/
theorem Memory.read_below {low a : Nat} {m : Memory} (wf : Memory.wfFrom low m = true) (below : a < low) :
    m.read a = Memory.blank := by
  induction m generalizing low with
  | nil => rfl
  | cons c rest ih =>
    obtain ⟨k, v⟩ := c
    obtain ⟨le, -, -, wf⟩ := Memory.wfFrom_cons.mp wf
    rw [Memory.read_cell, if_neg (by omega)]
    exact ih wf (by omega)

theorem Memory.read_write_from {low : Nat} {m : Memory} (wf : Memory.wfFrom low m = true) (a b : Nat) (v : Byte) :
    (m.write a v).read b = if b = a then v else m.read b := by
  induction m generalizing low with
  | nil => exact Memory.read_cons a b v [] rfl
  | cons c rest ih =>
    obtain ⟨k, x⟩ := c
    obtain ⟨-, inside, ne, rising⟩ := Memory.wfFrom_cons.mp wf
    rw [Memory.write]
    by_cases less : a < k
    · rw [if_pos less]
      exact Memory.read_cons a b v _
        (Memory.read_below (low := k) (Memory.wfFrom_cons.mpr ⟨le_rfl, inside, ne, rising⟩) less)
    · rw [if_neg less]
      by_cases same : a = k
      · subst same
        rw [if_pos rfl, Memory.read_cons a b v rest (Memory.read_below rising (Nat.lt_succ_self a)), Memory.read_cell]
        split
        · rfl
        · rename_i other; rw [if_neg (Ne.symm other)]
      · rw [if_neg same, Memory.read_cell, Memory.read_cell, ih rising]
        by_cases hk : k = b
        · rw [if_pos hk, if_pos hk, if_neg (by omega)]
        · rw [if_neg hk, if_neg hk]

theorem Memory.read_write {m : Memory} (wf : m.wf = true) (a b : Nat) (v : Byte) :
    (m.write a v).read b = if b = a then v else m.read b :=
  Memory.read_write_from wf a b v

/-- R96: a range that is written reads as its data, and every other byte as before. -/
theorem Memory.read_writeBytes {m : Memory} {a : Nat} {data : List Byte} (wf : m.wf = true)
    (inside : a + data.length ≤ Config.storeSize) (b : Nat) :
    (m.writeBytes a data).read b = if a ≤ b then (data[b - a]?).getD (m.read b) else m.read b := by
  induction data generalizing m a with
  | nil => simp [Memory.writeBytes]
  | cons v rest ih =>
    rw [List.length_cons] at inside
    rw [Memory.writeBytes, ih (Memory.wf_write v (by omega) wf) (by omega), Memory.read_write wf]
    by_cases before : b < a
    · rw [if_neg (by omega), if_neg (by omega), if_neg (by omega)]
    · by_cases first : b = a
      · subst first
        rw [if_neg (by omega), if_pos rfl, if_pos le_rfl, Nat.sub_self]; rfl
      · rw [if_pos (by omega), if_neg first, if_pos (by omega), show b - a = (b - (a + 1)) + 1 by omega,
          List.getElem?_cons_succ]

theorem Memory.readRange_writeBytes {m : Memory} {a : Nat} {data : List Byte} (wf : m.wf = true)
    (inside : a + data.length ≤ Config.storeSize) : (m.writeBytes a data).readRange a data.length = data := by
  refine List.ext_getElem (by simp [Memory.readRange]) fun i h h' => ?_
  simp only [Memory.readRange, List.getElem_map, List.getElem_range', Memory.read_writeBytes wf inside]
  simp [h']

/-- Contents in canonical form from the same offset on that read the same are the same. -/
theorem Memory.ext_from {low : Nat} {m m' : Memory} (wf : Memory.wfFrom low m = true) (wf' : Memory.wfFrom low m' = true)
    (same : ∀ a, m.read a = m'.read a) : m = m' := by
  induction m generalizing low m' with
  | nil =>
    cases m' with
    | nil => rfl
    | cons c rest =>
      obtain ⟨-, -, ne, -⟩ := Memory.wfFrom_cons.mp wf'
      refine absurd ?_ ne
      have := same c.1
      rw [Memory.read_cell, if_pos rfl] at this
      exact this.symm
  | cons c rest ih =>
    obtain ⟨k, v⟩ := c
    obtain ⟨le, inside, ne, rising⟩ := Memory.wfFrom_cons.mp wf
    cases m' with
    | nil =>
      have := same k
      rw [Memory.read_cell, if_pos rfl] at this
      exact absurd this ne
    | cons c' rest' =>
      obtain ⟨k', v'⟩ := c'
      obtain ⟨le', inside', ne', rising'⟩ := Memory.wfFrom_cons.mp wf'
      have atK := same k
      have atK' := same k'
      rw [Memory.read_cell, Memory.read_cell, if_pos rfl] at atK
      rw [Memory.read_cell, Memory.read_cell, if_pos rfl] at atK'
      have offsets : k = k' := by
        by_contra differ
        rw [if_neg (Ne.symm differ)] at atK
        rw [if_neg differ] at atK'
        obtain less | less := Nat.lt_or_gt_of_ne differ
        · exact ne (atK.trans (Memory.read_below rising' (by omega)))
        · exact ne' (atK'.symm.trans (Memory.read_below rising (by omega)))
      subst offsets
      rw [if_pos rfl] at atK
      subst atK
      congr 1
      refine ih rising rising' fun a => ?_
      by_cases ha : k = a
      · subst ha
        rw [Memory.read_below rising (Nat.lt_succ_self k), Memory.read_below rising' (Nat.lt_succ_self k)]
      · have := same a
        rwa [Memory.read_cell, Memory.read_cell, if_neg ha, if_neg ha] at this

/-- Settles O47: a byte or a range reads as it was written, and the canonical form has one list for each contents. -/
theorem memoryReadsWhatWasWritten : Obligations.MemoryReadsWhatWasWritten := by
  refine ⟨fun m a b v wf => Memory.read_write wf a b v, fun m a data wf inside => ?_, fun m m' wf wf' same =>
    Memory.ext_from wf wf' same⟩
  refine ⟨Memory.readRange_writeBytes wf inside, fun b outside => ?_⟩
  rw [Memory.read_writeBytes wf inside]
  split
  · rw [List.getElem?_eq_none (by omega)]; rfl
  · rfl

/-! ## Event queues and attention lines (R160, R162, R170) -/

theorem appendRecord_overflow (ahead : List Record) (n : Nat) (r : Record) :
    appendRecord (ahead ++ [.overflow n]) r = ahead ++ [.overflow (if n < 255 then n + 1 else n)] := by
  obtain ⟨ahead', m, same, appended⟩ | ⟨no, -⟩ := appendRecord_cases (ahead ++ [.overflow n]) r
  · obtain ⟨rfl, last⟩ := List.append_inj' same rfl
    cases last
    exact appended
  · exact absurd (by simp) (no n)

theorem Port.attention_iff (port : Port) : port.attention = true ↔
    port.state = .online ∧ ∃ r ∈ port.queue, port.attnEnable.getLsbD r.code = true := by
  simp [Port.attention, Port.online, kindEnabled]

/-- Settles O49: by the port state, the newest record of the queue, and the enable set. -/
theorem offerAndAttention : Obligations.OfferAndAttention := by
  refine ⟨fun port r => ?_, appendRecord_overflow, fun s r => ⟨fun p => s.port_broadcast p r, fun q p => ?_⟩,
    Port.attention_iff⟩
  · rw [Port.offer]
    exact if_congr beq_iff_eq rfl rfl
  · exact s.port_broadcastExcept q p r

/-! ## Settings (R43, R121, R153) -/

section

variable {s : State} {p : PortId} {value : List Byte}

/-- R43, R121, R153: what a setting's own rule answers. -/
theorem State.conclude_settingRule (limit : Nat) (put : Nat → State) :
    s.conclude p (settingRule value limit put) =
      if 1 ≤ bytesAt value 0 2 ∧ bytesAt value 0 2 ≤ limit then (put (bytesAt value 0 2)).answer p (.done none)
      else s.answer p (.refused .badValue) := by
  unfold settingRule settingValue
  by_cases range : 1 ≤ bytesAt value 0 2 ∧ bytesAt value 0 2 ≤ limit
  · rw [if_pos (by simpa using range), if_pos range]; rfl
  · rw [if_neg (by simpa using range), if_neg range]; rfl

end

/-- Settles O33: each setting takes the values from 1 to its limit. -/
theorem settings : Obligations.Settings := by
  intro s p value n bad
  refine ⟨fun held => ?_, fun held => ?_, fun held => ?_⟩
  · exact congrArg Host.Outcome.next
      ((State.take_controlWrite held.1 (r := .discardIv) rfl rfl (.inr held.2)
        (fun s value => settingRule value 4095 (fun n => { s with discardInterval := n }))).trans
        (State.conclude_settingRule 4095 _))
  · exact congrArg Host.Outcome.next
      ((State.take_controlWrite held.1 (r := .leaseIv) rfl rfl (.inr held.2)
        (fun s value => settingRule value 1000 (fun n => { s with claim := { s.claim with interval := n } }))).trans
        (State.conclude_settingRule 1000 _))
  · exact congrArg Host.Outcome.next
      ((State.take_controlWrite held.1 (r := .xbTimeout) rfl rfl (.inr held.2)
        (fun s value => settingRule value 1023 (fun n => { s with xbm := { s.xbm with timeout := n } }))).trans
        (State.conclude_settingRule 1023 _))

end Sys2Proof.Machine
end

section
/-! SUPPORT. The grants: what each starts, what is due, and how those that are due stand before an event that takes away what
they would go to; and the statement about them. -/

/- The proofs are checked one after another: each that waits for the kernel holds the stack of a thread. -/
set_option Elab.async false

namespace Sys2Proof.Machine

/-! ## What a grant starts (R37, R70, R100, R109) -/

section

variable {s : State}

theorem State.grantStore_of_found {pos : Position} (free : s.store = none) (up : s.inReset = false)
    (found : (cycleAfter s.lastPosition).find? s.positionRequests = some pos) : s.grantStore = s.grantPosition pos := by
  simp only [State.grantStore, free, up, found, Option.isSome_none, Bool.or_self, Bool.false_eq_true, if_false]

/-- R100: the state in which a position has been granted. -/
theorem State.grantPosition_eq (pos : Position) :
    let granted := { s with store := some pos, lastPosition := pos }
    s.grantPosition pos = match pos with
      | .port _ => granted
      | .drain => { granted with pwq := match s.pwq with
        | h :: rest => { h with inFlight := true } :: rest
        | [] => [] }
      | .fetch => { granted with drt := match s.drt.find? (fun e => e.resource == .ls && e.phase == .waiting 0) with
        | some e => s.drt.map (fun x => if x.tag = e.tag then { x with phase := .fetching none } else x)
        | none => s.drt } := by
  cases pos with
  | port p => rfl
  | drain => cases queued : s.pwq <;> simp only [State.grantPosition, State.startDrain, queued]
  | fetch =>
    have found : s.drt.find? (Entry.eligible .ls) =
        s.drt.find? (fun e => e.resource == .ls && e.phase == .waiting 0) := rfl
    cases oldest : s.drt.find? (Entry.eligible .ls) with
    | none => simp only [State.grantPosition, State.startFetch, ← found, oldest]
    | some e => simp only [State.grantPosition, State.startFetch, ← found, oldest]; rfl

theorem State.grantStore_of_none_requests (h : s.store ≠ none ∨ s.inReset = true ∨ ∀ pos, s.positionRequests pos = false) :
    s.grantStore = s := by
  obtain same | ⟨pos, free, up, requests, -⟩ := s.grantStore_cases
  · exact same
  · obtain busy | reset | no := h
    · exact absurd free busy
    · rw [up] at reset; cases reset
    · rw [no pos] at requests; cases requests

theorem State.grantBus_of_busy (h : s.xbm.bus ≠ .idle) : s.grantBus = s := by
  obtain same | ⟨stream, idle, -⟩ := s.grantBus_cases
  · exact same
  · exact absurd idle h

theorem State.grantBus_of_chosen {stream : Stream} (idle : s.xbm.bus = .idle)
    (chosen : chooseStream (s.drainRequests .xb) (s.fetchRequests .xb) s.xbm.lastStream = some stream) :
    s.grantBus = s.grantStream stream := by
  simp only [State.grantBus, idle, chosen]

theorem chooseStream_none_iff {drain fetch : Bool} {last : Stream} :
    chooseStream drain fetch last = none ↔ drain = false ∧ fetch = false := by
  cases drain <;> cases fetch <;> cases last <;> simp [chooseStream]

theorem State.grantBus_of_no_requests (drain : s.drainRequests .xb = false) (fetch : s.fetchRequests .xb = false) :
    s.grantBus = s := by
  obtain same | ⟨stream, -, chosen, -⟩ := s.grantBus_cases
  · exact same
  · rw [chooseStream_none_iff.mpr ⟨drain, fetch⟩] at chosen; cases chosen

theorem chooseStream_drain {fetch : Bool} {last : Stream} (h : fetch = true → last = .fetch) :
    chooseStream true fetch last = some .drain := by
  cases fetch with
  | false => cases last <;> rfl
  | true => rw [h rfl]; rfl

theorem chooseStream_fetch {drain : Bool} {last : Stream} (h : drain = true → last = .drain) :
    chooseStream drain true last = some .fetch := by
  cases drain with
  | false => cases last <;> rfl
  | true => rw [h rfl]; rfl

/-! ## Which grants are due (R99, R100, R116, R117) -/

theorem State.storeGrantee_of_found {pos : Position} (free : s.store = none) (up : s.inReset = false)
    (found : (cycleAfter s.lastPosition).find? s.positionRequests = some pos) :
    s.storeGrantee = s.positionGrantee pos := by
  simp only [State.storeGrantee, free, up, found, Option.isSome_none, Bool.or_self, Bool.false_eq_true, if_false,
    Option.bind_some]

theorem State.busGrantee_of_chosen {stream : Stream} (idle : s.xbm.bus = .idle)
    (chosen : chooseStream (s.drainRequests .xb) (s.fetchRequests .xb) s.xbm.lastStream = some stream) :
    s.busGrantee = s.streamGrantee stream := by
  simp only [State.busGrantee, idle, chosen, Option.bind_some]

theorem State.busGrantee_cases {g : Grantee} (h : s.busGrantee = some g) :
    s.xbm.bus = .idle ∧ ∃ stream,
      chooseStream (s.drainRequests .xb) (s.fetchRequests .xb) s.xbm.lastStream = some stream ∧
      s.streamRequests stream = true ∧ s.streamGrantee stream = some g := by
  unfold State.busGrantee at h
  split at h
  · rename_i idle
    obtain ⟨stream, chosen, grantee⟩ := Option.bind_eq_some_iff.mp h
    exact ⟨idle, stream, chosen, chooseStream_requests chosen, grantee⟩
  · cases h

/-- R100: with no grant due at the store it is busy, device reset is in force, or nothing requests it. -/
theorem State.storeGrantee_eq_none_iff :
    s.storeGrantee = none ↔ (s.inReset = false → s.store = none → ∀ pos, s.positionRequests pos = false) := by
  constructor
  · intro none up free pos
    by_contra requests
    rw [Bool.not_eq_false] at requests
    cases found : (cycleAfter s.lastPosition).find? s.positionRequests with
    | none => exact List.find?_eq_none.mp found pos (mem_cycleAfter _ pos) requests
    | some first =>
      have due := State.positionGrantee_isSome (List.find?_some found)
      rw [← State.storeGrantee_of_found free up found, none] at due
      cases due
  · intro no
    unfold State.storeGrantee
    split
    · rfl
    · rename_i idle
      simp only [Bool.or_eq_true, not_or, Bool.not_eq_true, Option.isSome_eq_false_iff, Option.isNone_iff_eq_none] at idle
      have none : (cycleAfter s.lastPosition).find? s.positionRequests = none :=
        List.find?_eq_none.mpr fun pos _ => by rw [no idle.2 idle.1 pos]; simp
      rw [none]; rfl

/-- R117: with no grant due at the bus it is not IDLE, or neither stream requests it. -/
theorem State.busGrantee_eq_none_iff :
    s.busGrantee = none ↔ (s.xbm.bus = .idle → s.drainRequests .xb = false ∧ s.fetchRequests .xb = false) := by
  constructor
  · intro none idle
    cases chosen : chooseStream (s.drainRequests .xb) (s.fetchRequests .xb) s.xbm.lastStream with
    | none => exact chooseStream_none_iff.mp chosen
    | some stream =>
      rw [State.busGrantee_of_chosen idle chosen] at none
      cases stream with
      | drain => cases none
      | fetch =>
        obtain ⟨e, found⟩ := State.eligible_of_fetchRequests (chooseStream_requests chosen)
        rw [State.streamGrantee, found] at none
        cases none
  · intro no
    unfold State.busGrantee
    split
    · rename_i idle
      rw [chooseStream_none_iff.mpr (no idle)]; rfl
    · rfl

/-- R100, R117: neither arbiter is idle with a request exactly where no grant is due. -/
theorem State.workConserving_iff : s.workConserving ↔ s.granted := by
  rw [State.granted, State.storeGrantee_eq_none_iff, State.busGrantee_eq_none_iff]

/-! ## Grants and the count of open choices (assumptions 16 to 18) -/

/-- The state with another count of the choices made. -/
def State.withChoices (s : State) (n : Nat) : State :=
  { s with choices := n }

@[simp] theorem State.withChoices_choices (s : State) : s.withChoices s.choices = s := rfl

@[simp] theorem State.withChoices_withChoices (s : State) (m n : Nat) : (s.withChoices m).withChoices n = s.withChoices n := rfl

theorem State.choose_eq (s : State) : s.choose = s.withChoices (s.choices + 1) := rfl

theorem State.startDrain_withChoices (s : State) (n : Nat) : (s.withChoices n).startDrain = s.startDrain.withChoices n := by
  simp only [State.startDrain, State.withChoices]
  split <;> rfl

theorem State.startFetch_withChoices (s : State) (n : Nat) (r : Resource) :
    (s.withChoices n).startFetch r = (s.startFetch r).withChoices n := by
  simp only [State.startFetch, State.withChoices]
  split <;> rfl

theorem State.grantPosition_withChoices (s : State) (n : Nat) (pos : Position) :
    (s.withChoices n).grantPosition pos = (s.grantPosition pos).withChoices n := by
  cases pos with
  | port p => rfl
  | drain => exact State.startDrain_withChoices { s with store := some .drain, lastPosition := .drain } n
  | fetch => exact State.startFetch_withChoices { s with store := some .fetch, lastPosition := .fetch } n .ls

theorem State.grantStore_withChoices (s : State) (n : Nat) : (s.withChoices n).grantStore = s.grantStore.withChoices n := by
  have requests : (s.withChoices n).positionRequests = s.positionRequests := funext fun pos => by cases pos <;> rfl
  unfold State.grantStore
  rw [requests]
  simp only [show (s.withChoices n).store = s.store from rfl, show (s.withChoices n).inReset = s.inReset from rfl,
    show (s.withChoices n).lastPosition = s.lastPosition from rfl]
  split
  · rfl
  · split
    · exact State.grantPosition_withChoices ..
    · rfl

theorem State.grantStream_withChoices (s : State) (n : Nat) (stream : Stream) :
    (s.withChoices n).grantStream stream = (s.grantStream stream).withChoices n := by
  cases stream with
  | drain =>
    simp only [State.grantStream, State.startDrain_withChoices, show (s.withChoices n).pwq = s.pwq from rfl]
    split <;> rfl
  | fetch =>
    simp only [State.grantStream, State.startFetch_withChoices, show (s.withChoices n).drt = s.drt from rfl]
    split <;> rfl

theorem State.grantBus_withChoices (s : State) (n : Nat) : (s.withChoices n).grantBus = s.grantBus.withChoices n := by
  unfold State.grantBus
  simp only [show (s.withChoices n).xbm = s.xbm from rfl, show (s.withChoices n).drainRequests = s.drainRequests from rfl,
    show (s.withChoices n).fetchRequests = s.fetchRequests from rfl]
  split
  · split
    · exact State.grantStream_withChoices ..
    · rfl
  · rfl

theorem State.settle_withChoices (s : State) (n : Nat) : (s.withChoices n).settle = s.settle.withChoices n := by
  rw [State.settle, State.grantStore_withChoices, State.grantBus_withChoices, State.settle]

/-! ## Grants that are due, before an event (R24, R53, R102, R105, R118) -/

/-- R53: a grant that is due, before an event: it is made unless the event comes first, and an open choice is counted. -/
theorem State.grantBefore_eq (s : State) (lost : Bool) (first : Nat → Bool) {grant : State → State}
    (commutes : ∀ s n, grant (s.withChoices n) = (grant s).withChoices n) (keeps : ∀ s, (grant s).choices = s.choices) :
    s.grantBefore lost first grant =
      (if (!lost || first s.choices) = true then grant s else s).withChoices (s.choices + lost.toNat) := by
  cases lost with
  | false =>
    change grant s = (grant s).withChoices (s.choices + 0)
    rw [Nat.add_zero, ← keeps s, State.withChoices_choices]
  | true =>
    rw [State.grantBefore, if_pos rfl, Bool.not_true, Bool.false_or]
    split
    · rw [State.choose_eq, commutes]; rfl
    · rfl

/-- R53: what is granted before an event, of the two grants that are due. -/
def State.grantedOf (s : State) (store bus : Bool) : State :=
  if bus = true then (if store = true then s.grantStore else s).grantBus else if store = true then s.grantStore else s

theorem State.grantsBefore_eq (s : State) (lost : Grantee → Bool) (first : Nat → Bool) :
    let storeLost := s.storeGrantee.any lost
    let store := !storeLost || first s.choices
    let busLost := s.busGrantee.any lost
    let bus := !busLost || first (s.choices + storeLost.toNat)
    s.grantsBefore lost first = (s.grantedOf store bus).withChoices (s.choices + storeLost.toNat + busLost.toNat) := by
  intro storeLost store busLost bus
  let u := if store = true then s.grantStore else s
  have store_eq : s.grantBefore storeLost first State.grantStore = u.withChoices (s.choices + storeLost.toNat) :=
    s.grantBefore_eq storeLost first State.grantStore_withChoices State.grantStore_choices
  rw [State.grantsBefore, store_eq,
    State.grantBefore_eq _ _ first State.grantBus_withChoices State.grantBus_choices, State.grantBus_withChoices]
  change (if bus = true then u.grantBus.withChoices _ else u.withChoices _ : State).withChoices _ =
    (if bus = true then u.grantBus else u : State).withChoices _
  split <;> rfl

end

/-- Settles O44: by the position or the stream that is granted, and by which of the grants that are due the event takes away. -/
theorem grants : Obligations.Grants := by
  refine ⟨fun s free up pos found => ?_, fun s h => State.grantStore_of_none_requests h,
    fun s busy => State.grantBus_of_busy busy, fun s _ drain fetch => State.grantBus_of_no_requests drain fetch,
    fun s idle drain first h rest queued => ?drain, fun s e idle fetch first found => ?fetch,
    fun s => State.workConserving_iff.mpr s.granted_settle, fun s pos free up found => ?grantee,
    fun s => ?due, fun s lost first _ => ?before⟩
  · exact (State.grantStore_of_found free up found).trans (State.grantPosition_eq pos)
  case drain =>
    rw [State.grantBus_of_chosen idle (by rw [drain]; exact chooseStream_drain first)]
    simp only [State.grantStream, queued, State.startDrain, State.startTransaction]
  case fetch =>
    have oldest : s.drt.find? (Entry.eligible .xb) = some e := found
    rw [State.grantBus_of_chosen idle (by rw [fetch]; exact chooseStream_fetch first)]
    simp only [State.grantStream, oldest, State.startFetch, State.startTransaction]
    rfl
  case grantee =>
    have due := State.storeGrantee_of_found free up found
    cases pos with
    | port p => exact due
    | drain => exact due
    | fetch =>
      have requests : s.positionRequests .fetch = true := by simpa using List.find?_some found
      obtain ⟨e, oldest⟩ := State.eligible_of_fetchRequests requests
      exact ⟨e, oldest, by rw [due, State.positionGrantee, oldest]; rfl⟩
  case due =>
    refine ⟨State.grantStore_of_none, State.grantBus_of_none, fun p due => ?_, fun due => ?_, fun e due => ?_⟩
    · obtain ⟨-, stream, -, -, grantee⟩ := State.busGrantee_cases due
      cases stream with
      | drain => cases grantee
      | fetch => obtain ⟨e, -, other⟩ := Option.map_eq_some_iff.mp grantee; cases other
    · obtain ⟨-, stream, -, requests, grantee⟩ := State.busGrantee_cases due
      cases stream with
      | drain => exact requests
      | fetch => obtain ⟨e, -, other⟩ := Option.map_eq_some_iff.mp grantee; cases other
    · obtain ⟨-, stream, -, requests, grantee⟩ := State.busGrantee_cases due
      cases stream with
      | drain => cases grantee
      | fetch =>
        obtain ⟨x, oldest, same⟩ := Option.map_eq_some_iff.mp grantee
        cases same
        exact ⟨oldest, requests⟩
  case before =>
    refine ⟨_, _, fun not => ?_, fun not => ?_, fun always => ?_, fun never => ⟨fun is => ?_, fun is => ?_⟩, s.grantsBefore_eq lost first⟩
    · rw [not]; rfl
    · rw [not]; rfl
    · rw [always, always]; simp
    · rw [is, never]; rfl
    · rw [is, never]; rfl

end Sys2Proof.Machine
end

section
/-! SUPPORT. What the completion of an access of the store and the items and the timeout of a transaction do, from a state at
rest; and the statements about them. -/

/- The proofs are checked one after another: each that waits for the kernel holds the stack of a thread. -/
set_option Elab.async false

namespace Sys2Proof.Machine

/-! ## Completions of the store (R87, R88, R95 to R97, R104, R105) -/

section

variable {s : State} {p : PortId} {pos : Position}

theorem exec_lsAccessCompletion_of_free (rest : s.atRest) (free : s.store = none) : exec .lsAccessCompletion s = .next s := by
  change execLsAccessCompletion s = _
  simp only [execLsAccessCompletion, State.atOnce_of_atRest rest, free]

theorem exec_lsAccessCompletion_of_busy (rest : s.atRest) (busy : s.store = some pos)
    (inside : (s.accessRange pos).1 + (s.accessRange pos).2 ≤ Config.storeSize) :
    exec .lsAccessCompletion s = .next (s.completeAccess pos).grantStore := by
  change execLsAccessCompletion s = _
  simp only [execLsAccessCompletion, State.atOnce_of_atRest rest, busy]
  exact if_pos (decide_eq_true inside)

theorem State.accessRange_of_read {r : ReadInHand} (held : (s.port p).inHand = some (.read r))
    (kept : (s.port p).dropped = false) : s.accessRange (.port p) = (r.offset, r.count) := by
  simp only [State.accessRange, Port.readInHand, held, kept]

theorem State.accessRange_of_dropped (dropped : (s.port p).dropped = true) : s.accessRange (.port p) = (0, 0) := by
  simp only [State.accessRange, dropped]
  cases (s.port p).readInHand with
  | none => rfl
  | some r => rfl

theorem State.accessRange_of_head {h : PostedWrite} {rest : List PostedWrite} (queued : s.pwq = h :: rest) :
    s.accessRange .drain = (h.dest, h.data.length) := by
  simp only [State.accessRange, queued]

theorem State.accessRange_of_read_entry {e : Entry} (found : s.fetchedEntry .ls = some e) (kind : e.kind = .read) :
    s.accessRange .fetch = (e.dest, e.count) := by
  simp only [State.accessRange, found, kind]

theorem State.accessRange_of_swap_entry {e : Entry} {compareValue swapValue : List Byte}
    (found : s.fetchedEntry .ls = some e) (kind : e.kind = .swap compareValue swapValue) :
    s.accessRange .fetch = (e.dest, 8) := by
  simp only [State.accessRange, found, kind]

theorem State.completeRead_of_read {r : ReadInHand} (held : (s.port p).inHand = some (.read r))
    (kept : (s.port p).dropped = false) :
    s.completeRead p = s.answer p (.data (s.mem.readRange r.offset r.count) none) := by
  simp only [State.completeRead, kept, Port.readInHand, held, Bool.false_eq_true, if_false]

theorem State.completeRead_of_dropped (dropped : (s.port p).dropped = true) :
    s.completeRead p = s.modifyPort p (fun port => { port with dropped := false }) :=
  if_pos dropped

end

/-- Settles O38: by the position whose access completes. -/
theorem storeCompletions : Obligations.StoreCompletions := by
  refine ⟨fun s rest free => exec_lsAccessCompletion_of_free rest free, fun s p r rest busy kept held inside => ?read,
    fun s p rest busy dropped => ?dropped, fun s h tail rest canonical busy queued inside => ?drain,
    fun s e rest busy found kind inside => ?fetch⟩
  case read =>
    rw [exec_lsAccessCompletion_of_busy rest busy (by rw [State.accessRange_of_read held kept]; exact inside),
      State.completeAccess, State.completeRead_of_read held kept]
    rfl
  case dropped =>
    rw [exec_lsAccessCompletion_of_busy rest busy (by rw [State.accessRange_of_dropped dropped]; exact Nat.zero_le _),
      State.completeAccess, State.completeRead_of_dropped dropped]
  case drain =>
    refine ⟨s.mem.writeBytes h.dest h.data, ?_, Memory.read_writeBytes canonical inside⟩
    rw [exec_lsAccessCompletion_of_busy rest busy (by rw [State.accessRange_of_head queued]; exact inside),
      State.completeAccess, State.completeStoreWrite_of_head queued]
  case fetch =>
    have fetched : s.fetchedEntry .ls = some e := found
    rw [exec_lsAccessCompletion_of_busy rest busy (by rw [State.accessRange_of_read_entry fetched kind]; exact inside),
      State.completeAccess, State.completeStoreFetch_of_read fetched kind]
    rfl

theorem swapOutcome_eq_exchanged_iff {old compareValue : List Byte} :
    swapOutcome old compareValue = .exchanged ↔ old = compareValue := by
  unfold swapOutcome
  split
  · rename_i same; simp [same]
  · rename_i other; simp [other]

/-- R87: the word becomes the swap value where it is exchanged, and nothing else changes. -/
theorem Memory.read_swappedMemory {m : Memory} {dest : Nat} {compareValue swapValue : List Byte} (wf : m.wf = true)
    (length : swapValue.length = 8) (inside : dest + 8 ≤ Config.storeSize) (a : Nat) :
    (swappedMemory m dest compareValue swapValue).read a =
      if swapOutcome (m.readRange dest 8) compareValue = .exchanged ∧ dest ≤ a then
        (swapValue[a - dest]?).getD (m.read a) else m.read a := by
  unfold swappedMemory
  cases outcome : swapOutcome (m.readRange dest 8) compareValue with
  | exchanged =>
    simp only [true_and]
    rw [List.take_of_length_le length.le, Memory.read_writeBytes wf (by rw [length]; exact inside)]
  | notExchanged => simp

/-- Settles O39: the entry is fetched with the old word, and the store is the one that the exchange leaves. -/
theorem compareAndSwap : Obligations.CompareAndSwap := by
  intro s e compareValue swapValue rest canonical busy found kind length inside old
  have fetched : s.fetchedEntry .ls = some e := found
  refine ⟨swappedMemory s.mem e.dest compareValue swapValue, swapOutcome old compareValue, swapOutcome_eq_exchanged_iff, ?_,
    Memory.read_swappedMemory canonical length inside⟩
  rw [exec_lsAccessCompletion_of_busy rest busy (by rw [State.accessRange_of_swap_entry fetched kind]; exact inside),
    State.completeAccess, State.completeStoreFetch_of_swap fetched kind]
  rfl

/-! ## The beats of a transaction (R107, R110, R111) -/

section

variable {t : Transaction}

theorem Transaction.mem_positions {beat j : Nat} :
    j ∈ t.positions beat ↔ j < 8 ∧ t.address ≤ t.unitAddress beat + j ∧ t.unitAddress beat + j < t.address + t.count := by
  have range : [0, 1, 2, 3, 4, 5, 6, 7] = List.range 8 := rfl
  rw [Transaction.positions, range, List.mem_filter, List.mem_range, Bool.and_eq_true, decide_eq_true_iff, decide_eq_true_iff]

theorem Transaction.mem_beatBytes {data : List Byte} {beat j : Nat} {b : Byte} :
    (j, b) ∈ t.beatBytes data beat ↔ j ∈ t.positions beat ∧ data[t.unitAddress beat + j - t.address]? = some b := by
  rw [Transaction.beatBytes, List.mem_filterMap]
  constructor
  · rintro ⟨i, hi, carried⟩
    obtain ⟨x, byte, same⟩ := Option.map_eq_some_iff.mp carried
    obtain ⟨rfl, rfl⟩ := Prod.mk.injEq .. ▸ same
    exact ⟨hi, byte⟩
  · rintro ⟨hj, byte⟩
    exact ⟨j, hj, by rw [byte]; rfl⟩

theorem Transaction.keptBytes_eq (data : List Byte) :
    t.keptBytes data = (List.range 8).filterMap (fun j =>
      if t.address ≤ t.unitAddress t.beatsDone + j ∧ t.unitAddress t.beatsDone + j < t.address + t.count then data[j]?
      else none) := by
  have range : [0, 1, 2, 3, 4, 5, 6, 7] = List.range 8 := rfl
  rw [Transaction.keptBytes, Transaction.positions, range, List.filterMap_filter]
  refine List.filterMap_congr fun j _ => ?_
  simp only [Bool.and_eq_true, decide_eq_true_eq]

theorem Transaction.more_beats_iff {n : Nat} :
    n + 1 < t.beats ↔ n < (t.address + t.count - 1) / 8 - t.address / 8 := by
  rw [Transaction.beats]; omega

end

/-- Settles O41: by the item and the phase, and the positions of a beat. -/
theorem beats : Obligations.Beats := by
  intro s t rest active now beat last
  have mine : s.current t.number = some t := State.current_of_active active
  refine ⟨fun phase stream => ?_, fun phase stream => ?_, fun phase stream => ?_, fun data _ phase stream => ?_, fun k j b => ?_⟩
  · rw [exec_addressTaken rest, mine, Option.elim_some, if_pos phase, State.beginData,
      if_neg (by rw [Transaction.isWrite_iff, stream]; nofun)]
    rfl
  · rw [exec_addressTaken rest, mine, Option.elim_some, if_pos phase, State.beginData,
      if_pos (Transaction.isWrite_iff.mpr stream)]
    rfl
  · rw [exec_writeBeatTaken rest, mine, Option.elim_some, if_pos ⟨stream, phase⟩, State.beatTaken]
    simp only [Transaction.more_beats_iff]
    rfl
  · rw [exec_readBeat rest, mine, Option.elim_some, if_pos ⟨stream, phase⟩, State.takeReadBeat, Transaction.keptBytes_eq]
    simp only [Transaction.more_beats_iff]
    rfl
  · rw [Transaction.mem_beatBytes, Transaction.mem_positions, and_assoc, and_assoc]
    rfl

/-! ## The end of a transaction (R112, R113, R117, R119, R120) -/

section

variable {s : State} {t : Transaction}

theorem Transaction.endedBy_eq (t : Transaction) (how : TargetEnding) :
    t.endedBy how = if how = .ok ∧ t.phase = .ending then .ok else .error := by
  unfold Transaction.endedBy
  split
  · rename_i phase; rw [if_pos ⟨rfl, phase⟩]
  · rename_i other; rw [if_neg fun ⟨ok, phase⟩ => other ok phase]

theorem exec_expansionTimeout (rest : s.atRest) : exec .expansionTimeout s = .next s.expireDueTransaction := by
  change Host.Outcome.next s.atOnce.expireDueTransaction = _
  rw [State.atOnce_of_atRest rest]

theorem State.expireDueTransaction_of_due (active : s.xbm.bus = .active t) (due : t.remaining = 0) :
    s.expireDueTransaction = (s.expireTransaction t).grantBus := by
  simp only [State.expireDueTransaction, active, due, if_true]

theorem State.expireDueTransaction_of_not_due (not : ∀ t, s.xbm.bus = .active t → t.remaining ≠ 0) :
    s.expireDueTransaction = s := by
  unfold State.expireDueTransaction
  split
  · rename_i t active; exact if_neg (not t active)
  · rfl

end

/-- Settles O42: the completion is handed to the stream, for the ending and the timeout alike. -/
theorem transactionEnds : Obligations.TransactionEnds := by
  refine ⟨fun s t how rest active => ?_, fun s t rest active due => ?_, fun s rest not => ?_⟩
  · rw [exec_ending rest, State.current_of_active active, Option.elim_some, Transaction.endedBy_eq]
    split <;> rfl
  · rw [exec_expansionTimeout rest, State.expireDueTransaction_of_due active due]
    rfl
  · rw [exec_expansionTimeout rest, State.expireDueTransaction_of_not_due not]

end Sys2Proof.Machine
end

section
/-! SUPPORT. A link that goes down: the grants before it, the response that has left or not, and the port's own part; and the
statements about the link. -/

/- The proofs are checked one after another: each that waits for the kernel holds the stack of a thread. -/
set_option Elab.async false

namespace Sys2Proof.Machine

/-! ## Grants before an event, under other port records (R99) -/

section

variable {s t : State} {ports : Vector Port 4} {lost : Grantee → Bool} {first : Nat → Bool}

/-- Two states that differ in the records of their ports at most, and have the same ones, are the same. -/
theorem State.eq_of_ports (h : t = s.withPorts t.ports) (ports : ∀ p, t.port p = s.port p) : t = s := by
  rw [h, State.ports_ext ports, State.withPorts_ports]

theorem State.storeGrantee_withPorts (same : ∀ p : PortId, (ports[p]).sameRead (s.port p)) :
    (s.withPorts ports).storeGrantee = s.storeGrantee := by
  have requests : (s.withPorts ports).positionRequests = s.positionRequests :=
    funext (State.positionRequests_withPorts same)
  have grantee : (s.withPorts ports).positionGrantee = s.positionGrantee := funext fun pos => by cases pos <;> rfl
  unfold State.storeGrantee
  rw [requests, grantee]
  rfl

theorem State.grantBefore_withPorts {grant : State → State} (lost : Bool)
    (commutes : ∀ u : State, u.ports = s.ports → (u.withPorts ports).grantBefore false first grant = (grant u).withPorts ports) :
    (s.withPorts ports).grantBefore lost first grant = (s.grantBefore lost first grant).withPorts ports := by
  cases lost with
  | false => exact commutes s rfl
  | true =>
    simp only [State.grantBefore, if_true]
    rw [show (s.withPorts ports).choices = s.choices from rfl]
    split
    · exact commutes s.choose rfl
    · rfl

theorem State.grantsBefore_withPorts (same : ∀ p : PortId, (ports[p]).sameRead (s.port p)) :
    (s.withPorts ports).grantsBefore lost first = (s.grantsBefore lost first).withPorts ports := by
  have store : ∀ due, (s.withPorts ports).grantBefore due first State.grantStore =
      (s.grantBefore due first State.grantStore).withPorts ports := fun due =>
    State.grantBefore_withPorts due fun u hu => State.grantStore_withPorts fun p => by
      rw [State.port, hu]; exact same p
  unfold State.grantsBefore
  rw [State.storeGrantee_withPorts same, store]
  exact State.grantBefore_withPorts _ fun u _ => State.grantBus_withPorts u ports

end

/-! ## The port's own part of a link down (R138) -/

section

variable {s x y : State} {p : PortId} {lost : Grantee → Bool} {first : Nat → Bool}

theorem State.readGranted_withPorts {ports : Vector Port 4} (same : ∀ p : PortId, (ports[p]).sameRead (s.port p)) :
    (s.withPorts ports).readGranted p = s.readGranted p := by
  rw [State.readGranted, State.readGranted, State.port_withPorts, (same p).1, (same p).2]
  rfl

/-- R53, R143: which comes first where a link down takes a grant away: while a response is in hand, the link down. -/
def State.firstAtLinkDown (s : State) (p : PortId) : Nat → Bool :=
  if (s.port p).decided.isSome = true then fun _ => false else Config.grantFirst

theorem State.grantsBeforeLinkDown_eq (s : State) (p : PortId) :
    s.grantsBeforeLinkDown p = s.grantsBefore (s.lostAtLinkDown p) (s.firstAtLinkDown p) := by
  unfold State.grantsBeforeLinkDown State.firstAtLinkDown
  split <;> rfl

theorem State.firstAtLinkDown_of_decided {r : Response} (decided : (s.port p).inHand = some (.decided r)) :
    s.firstAtLinkDown p = fun _ => false :=
  if_pos (by simp [Port.decided, decided])

theorem State.firstAtLinkDown_of_none (none : (s.port p).decided = none) : s.firstAtLinkDown p = Config.grantFirst :=
  if_neg (by simp [none])

/-- R138: the link of a port whose link is up goes down after the grants that come before it. -/
theorem State.dropLink_of_up {u : State} (granted : s.grantsBeforeLinkDown p = u) (up : (u.port p).state ≠ .offline) :
    s.dropLink p =
      if u.online p = true then (u.modifyPort p (fun port => port.unlinked (u.readGranted p))).teardown p .link
      else u.modifyPort p (fun port => port.unlinked (u.readGranted p)) := by
  simp only [State.dropLink, granted]
  split
  · rename_i state; exact absurd state up
  · rename_i state; rw [if_neg (by simp [State.online, Port.online, state])]
  · rename_i state; rw [if_pos (by simp [State.online, Port.online, state])]

/-- R138: the link of a port goes down after the grants that come before it, whatever has been sent and decided at ports. -/
theorem State.dropLink_withPorts (eq : x = y.withPorts x.ports) (same : ∀ q : PortId, (x.ports[q]).sameRead (y.port q))
    (up : (x.port p).state ≠ .offline) :
    let u := y.grantsBefore (x.lostAtLinkDown p) (x.firstAtLinkDown p)
    ∃ v : State, v = { u with ports := v.ports } ∧ v.port p = (x.port p).unlinked (u.readGranted p) ∧
      (∀ q, q ≠ p → v.port q = x.port q) ∧ x.dropLink p = if x.online p = true then v.teardown p .link else v := by
  intro u
  have granted : x.grantsBeforeLinkDown p = u.withPorts x.ports := by
    have commutes := State.grantsBefore_withPorts (lost := x.lostAtLinkDown p) (first := x.firstAtLinkDown p) same
    rw [← eq] at commutes
    exact (x.grantsBeforeLinkDown_eq p).trans commutes
  have same' : ∀ q : PortId, (x.ports[q]).sameRead (u.port q) := fun q => by
    rw [State.port, State.grantsBefore_ports]; exact same q
  have read := State.readGranted_withPorts (p := p) same'
  refine ⟨(u.withPorts x.ports).modifyPort p (fun port => port.unlinked (u.readGranted p)), rfl, ?_, fun q hq => ?_, ?_⟩
  · rw [State.port_modifyPort, if_pos rfl]; rfl
  · rw [State.port_modifyPort, if_neg hq]; rfl
  · rw [State.dropLink_of_up granted up, read]
    rfl

/-- R131: the link-down indication is sent where the cause is LINK_FAULT. -/
def State.faulted (s : State) (p : PortId) (cause : LinkDownCause) : State :=
  if cause = .linkFault then s.sendLinkFault p else s

theorem State.faulted_eq (s : State) (p : PortId) (cause : LinkDownCause) :
    s.faulted p cause = s.withPorts (s.faulted p cause).ports := by
  unfold State.faulted
  split <;> rfl

theorem State.port_faulted (s : State) (p q : PortId) (cause : LinkDownCause) :
    (s.faulted p cause).port q =
      if q = p then { s.port p with sent := (s.port p).sent ++ (if cause = .linkFault then [.linkFault] else []) } else s.port q := by
  unfold State.faulted
  by_cases fault : cause = .linkFault
  · rw [if_pos fault, if_pos fault, State.sendLinkFault, State.port_modifyPort]
  · rw [if_neg fault, if_neg fault, List.append_nil]
    by_cases hq : q = p
    · rw [if_pos hq, hq]
    · rw [if_neg hq]

theorem exec_linkDown_of_offline (offline : (s.port p).state = .offline) (cause : LinkDownCause) :
    exec (.linkDown p cause) s = .next s.atOnce := by
  change execLinkDown p cause s = _
  simp only [execLinkDown, offline]

theorem exec_linkDown_of_up (up : (s.port p).state ≠ .offline) (cause : LinkDownCause) :
    exec (.linkDown p cause) s = .next ((((s.sendOthers p).resolve p).faulted p cause).dropLink p) := by
  change execLinkDown p cause s = _
  cases state : (s.port p).state with
  | offline => exact absurd state up
  | attached => cases cause <;> simp only [execLinkDown, state] <;> rfl
  | online => cases cause <;> simp only [execLinkDown, state] <;> rfl

theorem State.sameRead_faulted (same : ∀ q : PortId, (x.ports[q]).sameRead (y.port q)) (cause : LinkDownCause) (q : PortId) :
    ((x.faulted p cause).ports[q]).sameRead (y.port q) := by
  have port := x.port_faulted p q cause
  rw [State.port] at port
  rw [port]
  split
  · rename_i hq; rw [hq]; exact same p
  · exact same q

theorem State.port_faulted_self (s : State) (p : PortId) (cause : LinkDownCause) :
    (s.faulted p cause).port p =
      { s.port p with
        sent := (s.port p).sent ++ (if cause = LinkDownCause.linkFault then [LinkItem.linkFault] else []) } := by
  rw [State.port_faulted, if_pos rfl]

theorem State.online_faulted (s : State) (p : PortId) (cause : LinkDownCause) :
    (s.faulted p cause).online p = s.online p := by
  rw [State.online, State.port_faulted_self]; rfl

theorem State.lostAtLinkDown_faulted (s : State) (p : PortId) (cause : LinkDownCause) :
    (s.faulted p cause).lostAtLinkDown p = s.lostAtLinkDown p := funext fun g => by
  cases g with
  | read q => rfl
  | write => rfl
  | entry e => simp only [State.lostAtLinkDown, State.online_faulted]

theorem State.firstAtLinkDown_faulted (s : State) (p : PortId) (cause : LinkDownCause) :
    (s.faulted p cause).firstAtLinkDown p = s.firstAtLinkDown p := by
  rw [State.firstAtLinkDown, State.firstAtLinkDown, State.port_faulted_self]
  rfl

/-- R131, R138: the same with the link-down indication. -/
theorem State.dropLink_faulted (eq : x = y.withPorts x.ports) (same : ∀ q : PortId, (x.ports[q]).sameRead (y.port q))
    (up : (x.port p).state ≠ .offline) (cause : LinkDownCause) :
    let u := y.grantsBefore (x.lostAtLinkDown p) (x.firstAtLinkDown p)
    ∃ v : State, v = { u with ports := v.ports } ∧
      v.port p =
        { x.port p with
          state := .offline, buffer := [], inHand := none, dropped := (x.port p).dropped || u.readGranted p
          sent := (x.port p).sent ++ (if cause = LinkDownCause.linkFault then [LinkItem.linkFault] else []) } ∧
      (∀ q, q ≠ p → v.port q = x.port q) ∧
      (x.faulted p cause).dropLink p = if x.online p = true then v.teardown p .link else v := by
  intro u
  have faulted : x.faulted p cause = y.withPorts (x.faulted p cause).ports := by
    calc x.faulted p cause = x.withPorts (x.faulted p cause).ports := x.faulted_eq p cause
      _ = (y.withPorts x.ports).withPorts (x.faulted p cause).ports := by rw [← eq]
  obtain ⟨v, frame, own, other, drops⟩ := State.dropLink_withPorts (p := p) faulted (State.sameRead_faulted same cause)
    (by rw [State.port_faulted_self]; exact up)
  rw [State.firstAtLinkDown_faulted, State.lostAtLinkDown_faulted] at frame own
  rw [State.online_faulted] at drops
  refine ⟨v, frame, own.trans (by rw [State.port_faulted_self]; rfl), fun q hq => (other q hq).trans ?_, drops⟩
  rw [State.port_faulted, if_neg hq]

theorem State.resolve_of_none (none : (s.port p).decided = none) : s.resolve p = s := by
  simp only [State.resolve, none]

theorem State.resolve_of_decided {r : Response} (held : (s.port p).inHand = some (.decided r)) :
    s.resolve p = if Config.responseLeft s.choices = true then s.choose.send p else s.choose := by
  simp only [State.resolve, Port.decided, held]

theorem Port.readInHand_isSome {port : Port} (none : port.decided = none) : port.readInHand.isSome = port.inHand.isSome := by
  cases held : port.inHand with
  | none => simp [Port.readInHand, held]
  | some h =>
    cases h with
    | read r => simp [Port.readInHand, held]
    | decided r => simp [Port.decided, held] at none

/-- R138: with no response decided at a port, its request in hand is an immediate read. -/
theorem State.dropped_or_readGranted (none : (s.port p).decided = none) :
    ((s.port p).dropped || s.readGranted p) =
      ((s.port p).dropped || (s.store == some (.port p) && (s.port p).inHand.isSome)) := by
  rw [State.readGranted, Port.readInHand_isSome none]
  cases (s.port p).dropped <;> simp

/-- R143: what is left of a port that has sent the response it decided. -/
theorem State.send_eq {r : Response} (held : (s.port p).inHand = some (.decided r)) :
    s.send p = s.modifyPort p (fun port =>
      { port with buffer := port.buffer.tail, inHand := none, sent := port.sent ++ [.response r] }) :=
  State.modifyPort_congr (Port.send_of_decided held)

end

/-- Settles O13: the response that is decided has left or is discarded, and the grants come before as they may. -/
theorem linkDown : Obligations.LinkDown := by
  intro s p cause lost chosen discarded falls
  have lost_eq : lost = s.lostAtLinkDown p := funext fun g => by
    cases g with
    | read q => rfl
    | write => rfl
    | entry e => rfl
  refine ⟨fun rest offline => ?offline, fun sent up => ?up, fun r others up held => ?decided⟩
  case offline => rw [exec_linkDown_of_offline offline, State.atOnce_of_atRest rest]
  case up =>
    have resolved : (s.sendOthers p).resolve p = s := by
      rw [State.sendOthers_of_none fun q _ => sent q, State.resolve_of_none (sent p)]
    obtain ⟨v, frame, own, other, drops⟩ := State.dropLink_faulted (p := p) s.withPorts_ports.symm (fun _ => ⟨rfl, rfl⟩) up cause
    rw [State.firstAtLinkDown_of_none (sent p), ← lost_eq] at frame own
    have ports : (s.grantsBefore lost).port p = s.port p := State.port_grantsBefore ..
    refine ⟨v, frame, own.trans ?_, fun q hq => (other q hq).trans (State.port_grantsBefore ..).symm, ?_⟩
    · rw [← State.dropped_or_readGranted (by rw [ports]; exact sent p), ports]
    · rw [exec_linkDown_of_up up, resolved, drops]
  case decided =>
    have start : s.sendOthers p = s := State.sendOthers_of_none others
    by_cases left : Config.responseLeft s.choices = true
    · left
      have sent : s.resolve p = s.choose.send p := by rw [State.resolve_of_decided held, if_pos left]
      have same : s.choose.send p = chosen.modifyPort p (fun port =>
          { port with buffer := port.buffer.tail, inHand := none, sent := port.sent ++ [.response r] }) :=
        State.send_eq (s := s.choose) held
      rw [exec_linkDown_of_up up, start, sent, ← same]
      have none : ∀ q, ((s.choose.send p).port q).decided = none := fun q => by
        rw [State.port_send]
        split
        · exact Port.send_decided _
        · rename_i hq; exact others q hq
      rw [exec_linkDown_of_up (by rw [State.port_send, if_pos rfl, Port.send_state]; exact up),
        State.sendOthers_of_none fun q _ => none q, State.resolve_of_none (none p)]
    · right
      have kept : s.resolve p = s.choose := by rw [State.resolve_of_decided held, if_neg left]
      have read : ∀ q : PortId, (s.choose.ports[q]).sameRead (discarded.port q) := fun q => by
        rw [State.port_modifyPort]
        split
        · rename_i hq
          subst hq
          exact ⟨by rw [Port.readInHand, show (s.choose.ports[q]).inHand = _ from held]; rfl, rfl⟩
        · exact ⟨rfl, rfl⟩
      obtain ⟨v, frame, own, other, drops⟩ := State.dropLink_faulted (p := p) (y := discarded) (x := s.choose) rfl read up cause
      rw [State.firstAtLinkDown_of_decided (s := s.choose) held, show s.choose.lostAtLinkDown p = lost from lost_eq.symm]
        at frame own
      have ports : ∀ q, (discarded.grantsBefore lost (fun _ => false)).port q = discarded.port q := fun q =>
        State.port_grantsBefore ..
      have gone : discarded.port p = { s.port p with inHand := none } := by rw [State.port_modifyPort, if_pos rfl]; rfl
      refine ⟨v, frame, own.trans ?_, fun q hq => (other q hq).trans ?_, ?_⟩
      · rw [← State.dropped_or_readGranted (by rw [ports, gone]; rfl), ports, gone]
        rfl
      · rw [ports, State.port_modifyPort, if_neg hq]
        rfl
      · rw [exec_linkDown_of_up up, start, kept, drops]
        rfl

/-! ## A frame arrives (R130, R131) -/

section

variable {s : State} {p : PortId}

theorem exec_frameArrival_of_offline (offline : (s.port p).state = .offline) (f : Frame) :
    exec (.frameArrival p f) s = .next s.atOnce := by
  change execFrameArrival p f s = _
  simp only [execFrameArrival, offline]

theorem exec_frameArrival_of_room (up : (s.port p).state ≠ .offline) (room : (s.port p).buffer.length < 4) (f : Frame) :
    exec (.frameArrival p f) s = .next (s.sendAll.receive p f) := by
  change execFrameArrival p f s = _
  unfold execFrameArrival
  cases state : (s.port p).state with
  | offline => exact absurd state up
  | attached => exact congrArg _ (if_pos room)
  | online => exact congrArg _ (if_pos room)

theorem exec_frameArrival_of_full (up : (s.port p).state ≠ .offline) (full : 4 ≤ (s.port p).buffer.length) (f : Frame) :
    exec (.frameArrival p f) s = .next (((s.sendOthers p).resolve p).receive p f) := by
  have no : ¬(s.port p).buffer.length < Config.bufferSize := Nat.not_lt.mpr full
  change execFrameArrival p f s = _
  unfold execFrameArrival
  cases state : (s.port p).state with
  | offline => exact absurd state up
  | attached => exact congrArg _ (if_neg no)
  | online => exact congrArg _ (if_neg no)

theorem State.receive_of_full (full : 4 ≤ (s.port p).buffer.length) (f : Frame) :
    s.receive p f = (s.faulted p .linkFault).dropLink p :=
  if_neg (Nat.not_lt.mpr full)

theorem State.receive_of_room (room : (s.port p).buffer.length < 4) (f : Frame) :
    s.receive p f = s.settle.modifyPort p (fun port => { port with buffer := port.buffer ++ [f] }) :=
  if_pos room

/-- R132: where only one port has decided a response, all of them have left when that one has. -/
theorem State.sendAll_eq_send_sendOthers (s : State) (p : PortId) : s.sendAll = (s.sendOthers p).send p := by
  refine State.eq_of_ports rfl fun q => ?_
  rw [State.port_sendAll, State.port_send, State.port_sendOthers, State.port_sendOthers]
  by_cases hq : q = p
  · rw [hq, if_pos rfl, if_pos rfl]
  · rw [if_neg hq, if_neg hq]

/-- R143: at a full buffer whose response is still in hand, the frame takes the link down. -/
theorem exec_frameArrival_of_overrun (up : (s.port p).state ≠ .offline) (full : 4 ≤ (s.port p).buffer.length) (f : Frame)
    (kept : (((s.sendOthers p).resolve p).port p).buffer = (s.port p).buffer) :
    exec (.frameArrival p f) s = exec (.linkDown p .linkFault) s := by
  rw [exec_frameArrival_of_full up full, exec_linkDown_of_up up, State.receive_of_full (by rw [kept]; exact full)]

/-- R132: the link of a port, its frames, its request and what it has sent are the same. -/
structure Port.sameTalk (a b : Port) : Prop where
  sent : a.sent = b.sent
  buffer : a.buffer = b.buffer
  inHand : a.inHand = b.inHand
  state : a.state = b.state

theorem Port.sameTalk.trans {a b c : Port} (h : a.sameTalk b) (h' : b.sameTalk c) : a.sameTalk c :=
  ⟨h.sent.trans h'.sent, h.buffer.trans h'.buffer, h.inHand.trans h'.inHand, h.state.trans h'.state⟩

theorem Port.sameTalk_offer (port : Port) (r : Record) : (port.offer r).sameTalk port := by
  rw [Port.offer_frame]; exact ⟨rfl, rfl, rfl, rfl⟩

theorem Port.sameTalk_offerAll (port : Port) (l : List Record) : (port.offerAll l).sameTalk port := by
  induction l generalizing port with
  | nil => exact ⟨rfl, rfl, rfl, rfl⟩
  | cons r l ih => exact (ih _).trans (Port.sameTalk_offer port r)

/-- R140: a teardown sends nothing, and leaves a port its link, its frames and its request. -/
theorem State.sameTalk_teardown (s : State) (p q : PortId) (cause : LeaveCause) :
    ((s.teardown p cause).port q).sameTalk (s.port q) := by
  obtain ⟨-, -, -, port⟩ := s.teardown_tables p cause
  rw [port, State.port_tornTables, State.port_tornTables]
  split
  · rename_i hq
    subst hq
    rw [if_pos rfl]
    have offered := (s.port q).sameTalk_offerAll ((s.tornWindows q).map (fun w => .windowChanged w .disabled))
    exact ⟨offered.sent, offered.buffer, offered.inHand, offered.state⟩
  · exact ((Port.sameTalk_offerAll _ _).trans (Port.sameTalk_offerAll _ _)).trans (Port.sameTalk_offer _ _)

/-- R131: a link down with cause LINK_FAULT is named to the host. -/
theorem State.sent_dropLink_faulted (up : (s.port p).state ≠ .offline) :
    (((s.faulted p .linkFault).dropLink p).port p).sent = (s.port p).sent ++ [.linkFault] := by
  obtain ⟨v, -, own, -, drops⟩ :=
    State.dropLink_faulted (p := p) s.withPorts_ports.symm (fun _ => ⟨rfl, rfl⟩) up .linkFault
  rw [drops]
  split
  · rw [(v.sameTalk_teardown p p .link).sent, own]; rfl
  · rw [own]; rfl

end

/-- Settles O12: by the link, the place in the buffer, and whether the response decided for its head has left. -/
theorem frameArrival : Obligations.FrameArrival := by
  intro s p f chosen
  refine ⟨fun rest offline => ?offline, fun rest up room => ?room, fun sent up full => ?full, fun r up full held => ?decided⟩
  case offline => rw [exec_frameArrival_of_offline offline, State.atOnce_of_atRest rest]
  case room =>
    obtain ⟨sent, granted⟩ := rest
    have port : (s.modifyPort p (fun port => { port with buffer := port.buffer ++ [f] })).port p =
        { s.port p with buffer := (s.port p).buffer ++ [f] } := by rw [State.port_modifyPort, if_pos rfl]
    refine ⟨s.modifyPort p (fun port => { port with buffer := port.buffer ++ [f] }), ?_, rfl, port, ?_, fun q hq => ?_⟩
    · rw [exec_frameArrival_of_room up room, State.sendAll_of_allSent sent, State.receive_of_room room,
        State.settle_of_granted granted]
    · rw [port]
      simp only [Port.credits, List.length_append, List.length_singleton, Config.bufferSize]
      omega
    · rw [State.port_modifyPort, if_neg hq]
  case full =>
    refine exec_frameArrival_of_overrun up full f ?_
    rw [State.sendOthers_of_none fun q _ => sent q, State.resolve_of_none (sent p)]
  case decided =>
    have others : (s.sendOthers p).port p = s.port p := by rw [State.port_sendOthers, if_pos rfl]
    have start : ((s.sendOthers p).port p).inHand = some (.decided r) := by rw [others]; exact held
    by_cases left : Config.responseLeft s.choices = true
    · left
      have sent : (s.sendOthers p).resolve p = s.sendAll.choose := by
        rw [State.resolve_of_decided start, if_pos (by exact left), State.sendAll_eq_send_sendOthers s p]
        rfl
      have same : s.choose.send p = chosen.modifyPort p (fun port =>
          { port with buffer := port.buffer.tail, inHand := none, sent := port.sent ++ [.response r] }) :=
        State.send_eq (s := s.choose) held
      have own : (s.choose.send p).port p = (s.port p).send := by rw [State.port_send, if_pos rfl]; rfl
      have up' : ((s.choose.send p).port p).state ≠ .offline := by rw [own, Port.send_state]; exact up
      have all : (s.choose.send p).sendAll = s.sendAll.choose := by
        refine State.eq_of_ports rfl fun q => ?_
        rw [State.port_sendAll, State.port_send, State.port_choose, State.port_choose, State.port_choose, State.port_sendAll]
        split
        · rename_i hq; rw [hq, Port.send_of_none (Port.send_decided _)]
        · rfl
      rw [← same, exec_frameArrival_of_full up full, sent]
      by_cases room : ((s.choose.send p).port p).buffer.length < 4
      · rw [exec_frameArrival_of_room up' room, all]
      · have others : ((s.choose.send p).sendOthers p).resolve p = (s.choose.send p).sendAll := by
          have none : (((s.choose.send p).sendOthers p).port p).decided = none := by
            rw [State.port_sendOthers, if_pos rfl, own, Port.send_decided]
          rw [State.resolve_of_none none, State.sendAll_eq_send_sendOthers (s.choose.send p) p, State.send_of_none none]
        rw [exec_frameArrival_of_full up' (Nat.not_lt.mp room), others, all]
    · right
      have kept : (s.sendOthers p).resolve p = (s.sendOthers p).choose := by
        rw [State.resolve_of_decided start]; exact if_neg left
      have same := exec_frameArrival_of_overrun up full f (by rw [kept]; exact congrArg Port.buffer others)
      refine ⟨same, _, same.trans (exec_linkDown_of_up up _), ?_⟩
      rw [kept, State.sent_dropLink_faulted (s := (s.sendOthers p).choose) (by rw [State.port_choose, others]; exact up),
        State.port_choose, others]

end Sys2Proof.Machine
end

section
/-! SUPPORT. Device reset: the responses that have left by then, the grants that have come before it, and what it leaves; and
the statements about the reset commands and the timebase. -/

/- The proofs are checked one after another: each that waits for the kernel holds the stack of a thread. -/
set_option Elab.async false

namespace Sys2Proof.Machine

/-! ## Responses decided when device reset starts (R143, R144) -/

section

variable {s : State}

theorem State.sameRead_resolve (s : State) (p q : PortId) : ((s.resolve p).port q).sameRead (s.port q) := by
  obtain ⟨-, h⟩ | ⟨r, -, h | h⟩ := s.resolve_cases p
  · rw [h]; exact ⟨rfl, rfl⟩
  · rw [h, State.port_send]
    split
    · rename_i hq; rw [hq]; exact Port.sameRead_send _
    · exact ⟨rfl, rfl⟩
  · rw [h]; exact ⟨rfl, rfl⟩

theorem State.resolve_choices (s : State) (p : PortId) :
    (s.resolve p).choices = s.choices + (s.port p).decided.isSome.toNat := by
  obtain ⟨decided, h⟩ | ⟨r, decided, h | h⟩ := s.resolve_cases p
  · rw [h, decided]; rfl
  · rw [h, decided]; rfl
  · rw [h, decided]; rfl

/-- What resolving the ports of a list leaves of a state. -/
structure State.ResolvedFrom (s : State) (l : List PortId) (u : State) : Prop where
  others : ∀ p, p ∉ l → u.port p = s.port p
  sent : ∀ p, ∃ left, (s.port p).mayLeave left ∧ (u.port p).sent = (s.port p).sent ++ left
  sameRead : ∀ p, (u.port p).sameRead (s.port p)
  choices : u.choices = s.choices + l.countP (fun p => (s.port p).decided.isSome)

theorem State.resolved_foldl {l : List PortId} (nodup : l.Nodup) (s : State) : s.ResolvedFrom l (l.foldl State.resolve s) := by
  induction l generalizing s with
  | nil => exact ⟨fun _ _ => rfl, fun p => ⟨[], .inl rfl, by simp⟩, fun p => ⟨rfl, rfl⟩, rfl⟩
  | cons p l ih =>
    obtain ⟨fresh, nodup⟩ := List.nodup_cons.mp nodup
    obtain ⟨others, sent, same, choices⟩ := ih nodup (s.resolve p)
    rw [List.foldl_cons]
    refine ⟨fun q hq => ?_, fun q => ?_, fun q => ?_, ?_⟩
    · rw [List.mem_cons, not_or] at hq
      rw [others q hq.2, State.port_resolve_ne s hq.1]
    · by_cases hq : q = p
      · subst hq
        rw [others q fresh]
        exact s.resolve_sent q q
      · have step := sent q
        rwa [State.port_resolve_ne s hq] at step
    · exact ⟨(same q).1.trans (s.sameRead_resolve p q).1, (same q).2.trans (s.sameRead_resolve p q).2⟩
    · have counted : l.countP (fun q => ((s.resolve p).port q).decided.isSome) = l.countP (fun q => (s.port q).decided.isSome) :=
        List.countP_congr fun q hq => by rw [State.port_resolve_ne s (fun same : q = p => fresh (same ▸ hq))]
      rw [choices, counted, State.resolve_choices, List.countP_cons]
      cases (s.port p).decided.isSome <;> simp [Nat.add_assoc, Nat.add_comm]

theorem State.resolved (s : State) : s.ResolvedFrom portIds s.resolveAll :=
  State.resolved_foldl (by decide) s

theorem State.resolveAll_eq (s : State) : s.resolveAll = (s.withPorts s.resolveAll.ports).withChoices s.resolveAll.choices :=
  s.resolveAll_frame

/-! ## Grants due when device reset starts (R53, R99) -/

theorem State.storeGrantee_withChoices (s : State) (n : Nat) : (s.withChoices n).storeGrantee = s.storeGrantee := by
  have requests : (s.withChoices n).positionRequests = s.positionRequests := funext fun pos => by cases pos <;> rfl
  have grantee : (s.withChoices n).positionGrantee = s.positionGrantee := funext fun pos => by cases pos <;> rfl
  unfold State.storeGrantee
  rw [requests, grantee]
  rfl

theorem State.grantedOf_withPorts {ports : Vector Port 4} (same : ∀ p : PortId, (ports[p]).sameRead (s.port p)) (n : Nat)
    (store bus : Bool) :
    ((s.withPorts ports).withChoices n).grantedOf store bus = ((s.grantedOf store bus).withPorts ports).withChoices n := by
  have granted : (if store = true then ((s.withPorts ports).withChoices n).grantStore else (s.withPorts ports).withChoices n) =
      ((if store = true then s.grantStore else s).withPorts ports).withChoices n := by
    split
    · rw [State.grantStore_withChoices, State.grantStore_withPorts same]
    · rfl
  unfold State.grantedOf
  rw [granted]
  split
  · rw [State.grantBus_withChoices, State.grantBus_withPorts]
  · rfl

theorem State.grantedOf_pending (s : State) (store bus : Bool) : (s.grantedOf store bus).pending = s.pending := by
  cases store <;> cases bus <;> simp [State.grantedOf]

theorem State.grantedOf_busItems (s : State) (store bus : Bool) :
    (s.grantedOf store bus).busItems = s.busItems ∨ (s.grantedOf store bus).busItems = s.grantBus.busItems ∨
      (s.grantedOf store bus).busItems = s.settle.busItems := by
  cases bus with
  | false => left; cases store <;> simp [State.grantedOf]
  | true =>
    right
    cases store with
    | false => exact .inl rfl
    | true => exact .inr rfl

/-- R53: which of the two grants have come before an event, and how many choices have been counted. -/
theorem State.grantsBefore_grantedOf (s : State) (lost : Grantee → Bool) (first : Nat → Bool) :
    ∃ store bus n, s.grantsBefore lost first = (s.grantedOf store bus).withChoices n ∧ s.choices ≤ n ∧
      (s.storeGrantee.any lost = false → s.busGrantee.any lost = false → n = s.choices) := by
  refine ⟨_, _, _, s.grantsBefore_eq lost first, by omega, fun store bus => ?_⟩
  rw [store, bus]
  rfl

theorem State.grantedOf_of_granted (granted : s.granted) (store bus : Bool) : s.grantedOf store bus = s := by
  obtain ⟨noStore, noBus⟩ := granted
  have same : (if store = true then s.grantStore else s) = s := by
    rw [State.grantStore_of_none noStore, ite_self]
  rw [State.grantedOf, same, State.grantBus_of_none noBus, ite_self]

/-- R185: what device reset starts from: some grants have come before it, and the choices are counted. -/
theorem State.beforeReset (s : State) :
    let u := s.resolveAll.grantsBefore (fun _ => true)
    (u.busItems = s.busItems ∨ u.busItems = s.grantBus.busItems ∨ u.busItems = s.settle.busItems) ∧
      s.resolveAll.choices ≤ u.choices ∧ (s.granted → u.choices = s.resolveAll.choices ∧ u.busItems = s.busItems) := by
  intro u
  have same : ∀ p : PortId, (s.resolveAll.ports[p]).sameRead (s.port p) := s.resolved.sameRead
  obtain ⟨store, bus, n, before, le, none⟩ := s.resolveAll.grantsBefore_grantedOf (fun _ => true) Config.grantFirst
  have commutes := State.grantedOf_withPorts same s.resolveAll.choices store bus
  rw [← State.resolveAll_eq] at commutes
  have items : u.busItems = (s.grantedOf store bus).busItems := by
    rw [show u = (s.resolveAll.grantedOf store bus).withChoices n from before, commutes]; rfl
  have count : u.choices = n := congrArg State.choices before
  refine ⟨by rw [items]; exact s.grantedOf_busItems store bus, by rw [count]; exact le, fun granted => ⟨?_, ?_⟩⟩
  · rw [count]
    refine none ?_ ?_
    · have due : s.resolveAll.storeGrantee = s.storeGrantee := by
        rw [State.resolveAll_eq, State.storeGrantee_withChoices, State.storeGrantee_withPorts same]
      rw [due, granted.1]; rfl
    · have due : s.resolveAll.busGrantee = s.busGrantee := by rw [State.resolveAll_eq]; rfl
      rw [due, granted.2]; rfl
  · rw [items, State.grantedOf_of_granted granted]

theorem Window.reset_eq : Window.reset =
    { state := .disabled, bridgeBase := 0, size := 4096, resource := .ls, destBase := 0
      rights := #v[.none, .none, .none, .none], refCount := 0 } := by
  decide

/-- R185: what device reset leaves, with the levels of its inputs and the contents of the store. -/
theorem State.deviceReset_spec (s : State) (input clearing : Bool) (mem : Memory) :
    s.DeviceReset { s.deviceReset with resetInput := input, clearing := clearing, mem := mem } := by
  obtain ⟨items, le, granted⟩ := s.beforeReset
  have ports : (s.resolveAll.grantsBefore (fun _ => true)).ports = s.resolveAll.ports := State.grantsBefore_ports ..
  have pending : (s.resolveAll.grantsBefore (fun _ => true)).pending = s.pending :=
    (State.grantsBefore_pending ..).trans s.resolveAll_pending
  rw [State.deviceReset]
  generalize s.resolveAll.grantsBefore (fun _ => true) = u at items le granted ports pending
  refine
    { ports := fun p => ?_, windows := fun w => (u.window_clearDevice w).trans Window.reset_eq, drt := rfl
      discardInterval := rfl, pwq := rfl, lastSequence := rfl, claim := rfl, store := rfl, lastPosition := rfl, xbm := rfl
      busItems := items, choices := ?_, pending := pending }
  · obtain ⟨left, may, sent⟩ := s.resolved.sent p
    refine ⟨left, may, ?_⟩
    rw [← sent, State.port, State.port, ← ports]
    simp only [State.clearDevice, Fin.getElem_fin, Vector.getElem_ofFn]
    rfl
  · rw [← s.resolved.choices]
    exact ⟨le, granted⟩

end

/-! ## The reset commands (R185, R186) -/

section

variable {s : State}

theorem exec_storeClearingComplete (rest : s.atRest) :
    exec .storeClearingComplete s =
      .next (if s.clearing = true then { s with clearing := false, mem := [] }.releaseReset else s) := by
  change execStoreClearingComplete s = _
  simp only [execStoreClearingComplete, State.atOnce_of_atRest rest]

theorem exec_resetInputDeasserted (rest : s.atRest) :
    exec .resetInputDeasserted s =
      .next (if s.resetInput = true then { s with resetInput := false }.releaseReset else s) := by
  change execResetInputDeasserted s = _
  simp only [execResetInputDeasserted, State.atOnce_of_atRest rest]

theorem exec_resetInputAsserted :
    exec .resetInputAsserted s =
      .next (if s.inReset = true then { s.atOnce with resetInput := true } else { s.deviceReset with resetInput := true }) := rfl

end

/-- Settles O7: what device reset leaves, and which of the two inputs holds it. -/
theorem resetCommands : Obligations.ResetCommands := by
  refine ⟨fun s => ?powerOn, fun s rest clearing => ?cleared, fun s rest idle => ?idle, fun s up => ?asserted,
    fun s rest down => ?held, fun s rest asserted => ?deasserted, fun s rest idle => ?free⟩
  case powerOn =>
    have held := s.deviceReset_resetInput
    refine ⟨{ s.deviceReset with clearing := true, mem := [] }, rfl, s.deviceReset_spec s.deviceReset.resetInput true [], rfl,
      held, by simp [State.busResetOutput, State.inReset], fun p => by simp [State.linkOffered, State.inReset]⟩
  case cleared =>
    refine ⟨_, (exec_storeClearingComplete rest).trans (by rw [if_pos clearing]), ?_⟩
    unfold State.releaseReset
    cases input : s.resetInput with
    | false => simp [State.inReset, State.busResetOutput, Memory.read, Memory.blank]
    | true => simp [State.inReset, State.busResetOutput, Memory.read, Memory.blank]
  case idle => rw [exec_storeClearingComplete rest, if_neg (by rw [idle]; simp)]
  case asserted =>
    refine ⟨{ s.deviceReset with resetInput := true }, exec_resetInputAsserted.trans (by rw [if_neg (by rw [up]; simp)]),
      s.deviceReset_spec true s.deviceReset.clearing s.deviceReset.mem, rfl, s.deviceReset_clearing, s.deviceReset_mem, rfl⟩
  case held => rw [exec_resetInputAsserted, if_pos down, State.atOnce_of_atRest rest]
  case deasserted =>
    rw [exec_resetInputDeasserted rest, if_pos asserted, State.releaseReset]
    cases clearing : s.clearing with
    | false => simp [State.inReset]
    | true => simp [State.inReset]
  case free => rw [exec_resetInputDeasserted rest, if_neg (by rw [idle]; simp)]

end Sys2Proof.Machine
end

section
/-! SUPPORT. What makes no request: a move that admits nothing and completes nothing leaves neither the FREE store nor the IDLE
bus with a request where there was none. And the timebase unit, whose expiries come first. -/

/- The proofs are checked one after another: each that waits for the kernel holds the stack of a thread. -/
set_option Elab.async false

namespace Sys2Proof.Machine

/-! ## Requests that do not arise (R37, R69, R99) -/

section

variable {s t : State}

/-- Nothing requests in `t` what did not request in `s`, and neither agent is free now that was not before. -/
structure State.Calmer (s t : State) : Prop where
  up : t.inReset = false → s.inReset = false
  store : t.store = none → s.store = none
  bus : t.xbm.bus = .idle → s.xbm.bus = .idle
  reads : ∀ p, t.positionRequests (.port p) = true → t.store = none → s.positionRequests (.port p) = true
  drains : ∀ r, t.drainRequests r = true → s.drainRequests r = true
  fetches : ∀ r, t.fetchRequests r = true → s.fetchRequests r = true

theorem State.Calmer.granted (h : s.Calmer t) (granted : s.granted) : t.granted := by
  rw [State.granted, State.storeGrantee_eq_none_iff, State.busGrantee_eq_none_iff] at granted ⊢
  obtain ⟨store, bus⟩ := granted
  refine ⟨fun up free pos => Bool.eq_false_iff.mpr fun requests => ?_, fun idle => ⟨?_, ?_⟩⟩
  · have before : s.positionRequests pos = true := by
      cases pos with
      | port p => exact h.reads p requests free
      | drain => exact h.drains .ls requests
      | fetch => exact h.fetches .ls requests
    rw [store (h.up up) (h.store free)] at before
    cases before
  · exact Bool.eq_false_iff.mpr fun requests => by
      have before := h.drains .xb requests
      rw [(bus (h.bus idle)).1] at before
      cases before
  · exact Bool.eq_false_iff.mpr fun requests => by
      have before := h.fetches .xb requests
      rw [(bus (h.bus idle)).2] at before
      cases before

/-- R37: a list in which nothing is eligible that was not, and every entry that occupied a resource still stands, requests no
fetch that was not requested. -/
theorem fetchRequests_of_entries {r : Resource} (eligible : ∀ e ∈ t.drt, e.eligible r = true → ∃ x ∈ s.drt, x.eligible r = true)
    (occupies : ∀ e ∈ s.drt, e.occupies r = true → ∃ x ∈ t.drt, x.occupies r = true) (requests : t.fetchRequests r = true) :
    s.fetchRequests r = true := by
  rw [State.fetchRequests, Bool.and_eq_true, List.any_eq_true, Bool.not_eq_true', List.any_eq_false] at requests ⊢
  obtain ⟨⟨e, he, ready⟩, free⟩ := requests
  refine ⟨eligible e he ready, fun x hx busy => ?_⟩
  obtain ⟨y, hy, still⟩ := occupies x hx busy
  exact free y hy still

/-- A state with the same agents, queue and ports, and entries as above, is calmer. -/
theorem State.Calmer.of_entries (up : t.inReset = s.inReset) (store : t.store = s.store) (bus : t.xbm.bus = s.xbm.bus)
    (ports : t.ports = s.ports) (pwq : t.pwq = s.pwq)
    (eligible : ∀ r, ∀ e ∈ t.drt, e.eligible r = true → ∃ x ∈ s.drt, x.eligible r = true)
    (occupies : ∀ r, ∀ e ∈ s.drt, e.occupies r = true → ∃ x ∈ t.drt, x.occupies r = true) : s.Calmer t where
  up h := up.symm.trans h
  store h := store.symm.trans h
  bus h := bus.symm.trans h
  reads p h _ := by
    rw [State.positionRequests, State.port, ports, store] at h; exact h
  drains r h := by rw [State.drainRequests, pwq] at h; exact h
  fetches r h := fetchRequests_of_entries (eligible r) (occupies r) h

theorem State.Calmer.of_same (up : t.inReset = s.inReset) (store : t.store = s.store) (bus : t.xbm.bus = s.xbm.bus)
    (ports : t.ports = s.ports) (pwq : t.pwq = s.pwq) (drt : t.drt = s.drt) : s.Calmer t :=
  .of_entries up store bus ports pwq (fun _ e he ready => ⟨e, drt ▸ he, ready⟩) fun _ e he busy => ⟨e, drt.symm ▸ he, busy⟩

/-! ## The moves -/

/-- A port holds no read from now on that it did not hold, and no drop ends. -/
theorem PortMove.same_read {p : PortId} {port' : Port} {k : MoveKind} (h : PortMove s p k port') (noRead : ∀ q, k ≠ .read q)
    (noEnd : k ≠ .complete) (held : port'.readInHand.isSome = true) :
    port'.readInHand = (s.port p).readInHand ∧ port'.dropped = (s.port p).dropped := by
  cases h with
  | send => exact ⟨Port.send_readInHand _, Port.send_dropped _⟩
  | offer r => rw [Port.offer_frame]; exact ⟨rfl, rfl⟩
  | read => exact absurd rfl (noRead p)
  | undrop => exact absurd rfl noEnd
  | answer | linkUp | unlink | unlinkTorn => cases held
  | receive | join | detach | linkFault | pop | stage | wviewSel | tviewSel | attn => exact ⟨rfl, rfl⟩

theorem Entry.occupies_of_fetches {e : Entry} (h : e.phase.fetches = true) : e.occupies e.resource = true := by
  rw [Entry.occupies_iff]; exact ⟨rfl, .inl h⟩

theorem Entry.not_occupies_of_idle {e : Entry} {r : Resource} (h : e.phase.idle = true) : e.occupies r ≠ true := by
  rw [Ne, Entry.occupies_iff]
  rintro ⟨-, busy⟩
  revert h busy
  cases e.phase <;> simp [Phase.idle, Phase.fetches]

theorem Entry.orphaned_occupies {e : Entry} {r : Resource} (h : e.occupies r = true) : e.orphaned.occupies r = true := by
  rw [Entry.occupies_iff] at h ⊢
  exact ⟨h.1, .inr rfl⟩

theorem Entry.not_eligible_orphaned {e : Entry} {r : Resource} : e.orphaned.eligible r ≠ true := by
  simp [Entry.orphaned, Entry.eligible]

theorem Entry.eligible_tick (r : Resource) (e : Entry) : e.tick.eligible r = e.eligible r := by
  cases phase : e.phase with
  | ready r n => simp only [Entry.tick, Entry.eligible, phase]; rfl
  | waiting n => simp only [Entry.tick, phase]
  | fetching n => simp only [Entry.tick, phase]
  | orphaned => simp only [Entry.tick, phase]

theorem Entry.tick_of_occupies {r : Resource} {e : Entry} (h : e.occupies r = true) : e.tick = e := by
  unfold Entry.tick
  split
  · rename_i phase; simp [Entry.occupies, phase] at h
  · rfl

theorem BusState.tick_eq_idle {b : BusState} : b.tick = .idle ↔ b = .idle := by
  cases b <;> simp [BusState.tick]

/-- No move makes a request where none was, but those that bring a request to the table, the queue or a port, those of a
completion, and the end of device reset. -/
theorem Move.granted {k : MoveKind} (h : Move s k t) (noEntry : k ≠ .enter) (noRead : ∀ p, k ≠ .read p)
    (noEnd : k ≠ .complete) (noReset : k ≠ .reset) (distinct : s.tagsDistinct) (granted : s.granted) : t.granted := by
  have still := granted
  rw [State.granted, State.storeGrantee_eq_none_iff, State.busGrantee_eq_none_iff] at still
  obtain ⟨noStore, noBus⟩ := still
  cases h with
  | @port k p port' move =>
    refine State.Calmer.granted (s := s) ?_ granted
    refine ⟨id, id, id, fun q requests _ => ?_, fun _ => id, fun _ => id⟩
    rw [State.positionRequests, State.port_modifyPort] at requests
    by_cases hq : q = p
    · subst hq
      rw [if_pos rfl, Bool.and_eq_true, Bool.and_eq_true] at requests
      obtain ⟨⟨held, kept⟩, other⟩ := requests
      obtain ⟨read, dropped⟩ := move.same_read noRead noEnd held
      rw [State.positionRequests, Bool.and_eq_true, Bool.and_eq_true, ← read, ← dropped]
      exact ⟨⟨held, kept⟩, other⟩
    · rw [if_neg hq] at requests
      exact requests
  | grantPosition free up requests =>
    rw [noStore up free] at requests; cases requests
  | @grantStream stream idle requests =>
    cases stream with
    | drain => rw [State.streamRequests, (noBus idle).1] at requests; cases requests
    | fetch => rw [State.streamRequests, (noBus idle).2] at requests; cases requests
  | @orphan e he fetches =>
    refine State.Calmer.granted (s := s) ?_ granted
    refine State.Calmer.of_entries rfl rfl rfl rfl rfl (fun r x hx ready => ?_) fun r x hx busy => ?_
    · obtain ⟨y, hy, rfl⟩ := State.mem_setPhase.mp hx
      split at ready
      · simp [Entry.eligible] at ready
      · exact ⟨y, hy, ready⟩
    · refine ⟨_, State.mem_setPhase.mpr ⟨x, hx, rfl⟩, ?_⟩
      split
      · exact Entry.orphaned_occupies busy
      · exact busy
  | @vacate e he idle =>
    refine State.Calmer.granted (s := s) ?_ granted
    refine State.Calmer.of_entries rfl rfl rfl rfl rfl (fun r x hx ready => ⟨x, (List.mem_filter.mp hx).1, ready⟩)
      fun r x hx busy => ⟨x, List.mem_filter.mpr ⟨hx, ?_⟩, busy⟩
    rw [bne_iff_ne]
    intro tag
    rw [State.eq_of_tag distinct hx he tag] at busy
    exact Entry.not_occupies_of_idle idle busy
  | dismiss P named =>
    refine State.Calmer.granted (s := s) ?_ granted
    refine State.Calmer.of_entries rfl rfl rfl rfl rfl (fun r x hx ready => ?_) fun r x hx busy => ?_
    · rw [State.dismiss_drt] at hx
      obtain ⟨y, hy, rfl | rfl, -⟩ := mem_dismissed hx
      · exact ⟨_, hy, ready⟩
      · exact absurd ready Entry.not_eligible_orphaned
    · have stays : x ∈ s.drt.filter (fun x => !(P x && x.phase.idle)) := List.mem_filter.mpr ⟨hx, by
        cases idle : x.phase.idle with
        | true => exact absurd busy (Entry.not_occupies_of_idle idle)
        | false => simp⟩
      rw [State.dismiss_drt, foldl_dismissFrom_filter distinct]
      refine ⟨_, List.mem_map_of_mem stays, ?_⟩
      split
      · exact Entry.orphaned_occupies busy
      · exact busy
  | tick =>
    refine State.Calmer.granted (s := s) ?_ granted
    refine ⟨id, id, fun idle => ?_, fun _ requests _ => requests, fun _ => id, fun r => ?_⟩
    · exact BusState.tick_eq_idle.mp idle
    · exact fetchRequests_of_entries
        (fun x hx ready => by
          obtain ⟨y, hy, rfl⟩ := List.mem_map.mp hx
          exact ⟨y, hy, by rwa [Entry.eligible_tick] at ready⟩)
        fun x hx busy => ⟨x.tick, List.mem_map_of_mem hx, by rw [Entry.tick_of_occupies busy]; exact busy⟩
  | transaction active =>
    refine State.Calmer.granted (s := s) ?_ granted
    refine ⟨id, id, fun idle => ?_, fun _ requests _ => requests, fun _ => id, fun _ => id⟩
    cases idle
  | allocate | accept => exact absurd rfl noEntry
  | leaveIdle | popHead | fetched | refetch | dropFetched => exact absurd rfl noEnd
  | resetInputs => exact absurd rfl noReset
  | choose | disable | grantClaim | dropClaim | drive | memory =>
    exact State.Calmer.granted (s := s) (.of_same rfl rfl rfl rfl rfl rfl) granted

/-- The same for a move of the configuration. -/
theorem Config.granted (h : Config s t) (granted : s.granted) : t.granted := by
  cases h with
  | reset input clearing mem held =>
    rw [State.granted, State.storeGrantee_eq_none_iff, State.busGrantee_eq_none_iff]
    exact ⟨fun up => absurd (held.symm.trans up) (by simp), fun idle => ⟨rfl, rfl⟩⟩
  | discardInterval | leaseInterval | timeout | enable | rights =>
    exact State.Calmer.granted (s := s) (.of_same rfl rfl rfl rfl rfl rfl) granted

/-- Where nothing is admitted, completed or released from device reset, no request arises. -/
theorem Runs.granted {L : Scope} (noEntry : ¬L.admits) (noEnd : ¬L.completes) (noReset : ¬L.resets) (h : Runs L s t)
    (distinct : s.tagsDistinct) (granted : s.granted) : t.granted := by
  refine (h.keeps (I := fun u => u.tagsDistinct ∧ u.granted) (fun k u v ok hu move => ?_) (fun _ u v _ hu config => ?_)
    ⟨distinct, granted⟩).2
  · refine ⟨kept_tagsDistinct.move u v hu.1 move, move.granted ?_ ?_ ?_ ?_ hu.1 hu.2⟩
    · rintro rfl; exact noEntry ok
    · rintro p rfl; exact noEntry ok.2
    · rintro rfl; exact noEnd ok
    · rintro rfl; exact noReset ok
  · exact ⟨kept_tagsDistinct.config u v hu.1 config, config.granted hu.2⟩

end

/-! ## States at rest (assumptions 5 and 11) -/

section

variable {s t : State}

theorem PortMove.decided_none {p : PortId} {port' : Port} {k : MoveKind} (h : PortMove s p k port')
    (noAnswer : ∀ q, k ≠ .answer q) (before : (s.port p).decided = none) : port'.decided = none := by
  cases h with
  | send => exact Port.send_decided _
  | offer r => rw [Port.offer_frame]; exact before
  | answer => exact absurd rfl (noAnswer p)
  | read | linkUp | unlink | unlinkTorn => rfl
  | undrop | receive | join | detach | linkFault | pop | stage | wviewSel | tviewSel | attn => exact before

/-- Where no port answers, no response is decided that was not. -/
theorem Runs.allSent {L : Scope} (noAnswer : ∀ p, ¬L.answers p) (h : Runs L s t) (sent : s.allSent) : t.allSent := by
  refine h.keeps (I := State.allSent) (fun k u v ok hu move q => ?_) (fun _ u v _ hu config q => ?_) sent
  · obtain same | moved := move.port_cases q
    · rw [same]; exact hu q
    · exact moved.decided_none (fun p hk => noAnswer p (by subst hk; exact ok)) (hu q)
  · obtain same | reset := config.port_cases q
    · rw [same]; exact hu q
    · rw [reset]; rfl

theorem State.atRest_atOnce (s : State) : s.atOnce.atRest := by
  refine ⟨fun p => ?_, s.sendAll.granted_settle⟩
  rw [State.atOnce, State.port_settle]
  exact s.allSent_sendAll p

theorem State.atOnce_atOnce (s : State) : s.atOnce.atOnce = s.atOnce := State.atOnce_of_atRest s.atRest_atOnce

/-- A command that only has to do with the timers. -/
def Scope.timers : Scope :=
  { config := False, talk := False, answers := fun _ => False, admits := False, completes := False, resets := False }

/-- At rest with distinct tags, a timer that expires leaves a state at rest. -/
theorem Runs.rested (h : Runs Scope.timers s t) (rest : s.atRest ∧ s.tagsDistinct) : t.atRest ∧ t.tagsDistinct :=
  ⟨⟨h.allSent (fun _ => id) rest.1.1, h.granted id id id rest.2 rest.1.2⟩, kept_tagsDistinct.runs h rest.2⟩

theorem exec_discardExpiry_eq (t : Tag) : exec (.discardExpiry t) s = .next (s.atOnce.expireTag t) := rfl

theorem runCommands_cons {c : Instr} {u : State} (h : exec c s = .next u) (l : List Instr) :
    runCommands (c :: l) s = runCommands l u := by
  simp only [runCommands, h]

/-- At rest, the expiries of the tags of a list come one after the other. -/
theorem runCommands_discardExpiries (tags : List Tag) (l : List Instr) (rest : s.atRest ∧ s.tagsDistinct) :
    runCommands (tags.map Instr.discardExpiry ++ l) s = runCommands l (tags.foldl State.expireTag s) := by
  induction tags generalizing s with
  | nil => rfl
  | cons t tags ih =>
    rw [List.map_cons, List.cons_append, runCommands_cons (exec_discardExpiry rest.1 t)]
    exact ih ((runs_expireTag s t).rested rest)

end

/-! ## The timebase unit (R45, R113, R150, R151, R184) -/

section

variable {s : State}

theorem State.expireTags_of_none (tags : List Tag) (none : ∀ e ∈ s.drt, e.due = false) : tags.foldl State.expireTag s = s := by
  induction tags with
  | nil => rfl
  | cons t tags ih => rw [List.foldl_cons, State.expireTag_of_none fun e he _ => none e he, ih]

end

/-- Settles O8: with no expiry due a unit is the fall of the timers; else the expiries come first, one after the other. -/
theorem timebaseUnit : Obligations.TimebaseUnit := by
  unfold Obligations.TimebaseUnit
  intro lowered
  have ticks : ∀ s, lowered s = s.tick := fun s => rfl
  have unit : ∀ s, exec .timebaseUnit s = .next (lowered s.atOnce.expireDue) := fun s => by rw [ticks]; rfl
  refine ⟨fun s rest discards lease timeout => ?_, fun s u distinct ran => ?_⟩
  · have none : ∀ e ∈ s.drt, e.due = false := fun e he => Bool.eq_false_iff.mpr fun due => by
      obtain ⟨result, phase⟩ := Entry.due_iff.mp due
      exact discards e he result phase
    rw [unit, State.atOnce_of_atRest rest, State.expireDue, State.expireTags_of_none tagIds none,
      State.expireDueLease_of_not_due lease, State.expireDueTransaction_of_not_due timeout]
  · have rest : s.atOnce.atRest ∧ s.atOnce.tagsDistinct := 
      ⟨s.atRest_atOnce, kept_tagsDistinct.runs (runs_atOnce (L := .all True) s trivial) distinct⟩
    have start : runCommands (tagIds.map Instr.discardExpiry ++ [.leaseExpiry, .expansionTimeout]) s =
        runCommands (tagIds.map Instr.discardExpiry ++ [.leaseExpiry, .expansionTimeout]) s.atOnce := by
      have first : tagIds = 0 :: tagIds.tail := rfl
      rw [first, List.map_cons, List.cons_append, runCommands_cons (exec_discardExpiry_eq 0),
        runCommands_cons (exec_discardExpiry_eq 0), State.atOnce_atOnce]
    have tags := (runs_expireTags (L := .timers) tagIds s.atOnce).rested rest
    have lease := (runs_expireDueLease (L := .timers) _).rested tags
    rw [start, runCommands_discardExpiries tagIds _ rest, runCommands_cons (exec_leaseExpiry tags.1),
      runCommands_cons (exec_expansionTimeout lease.1)] at ran
    have due : s.atOnce.expireDue = u := by injection ran
    rw [unit, due]

end Sys2Proof.Machine
end

section
/-! SUPPORT. The grants that are due come before a command that takes away nothing they would go to; a command that leaves an
agent free leaves no request at it; and the statement that the arbiters stay work conserving. -/

/- The proofs are checked one after another: each that waits for the kernel holds the stack of a thread. -/
set_option Elab.async false

namespace Sys2Proof.Machine

/-! ## Commands after the grants that are due (R24, R53, R102) -/

section

variable {s : State} {p : PortId}

/-- R100, R117: what a grant goes to that is due. -/
def State.due (s : State) (g : Grantee) : Prop :=
  s.storeGrantee = some g ∨ s.busGrantee = some g

/-- Where an event takes away nothing that is due, every grant comes before it. -/
theorem State.grantsBefore_of_kept {lost : Grantee → Bool} (kept : ∀ g, s.due g → lost g = false) (first : Nat → Bool) :
    s.grantsBefore lost first = s.settle := by
  have none : ∀ o : Option Grantee, (∀ g, o = some g → lost g = false) → o.any lost = false := fun o h => by
    cases o with
    | none => rfl
    | some g => exact h g rfl
  rw [State.grantsBefore, none _ fun g h => kept g (.inl h), none _ fun g h => kept g (.inr h)]
  rfl

theorem State.allSent_settle (sent : s.allSent) : s.settle.allSent := fun q => by rw [State.port_settle]; exact sent q

theorem State.atRest_settle (sent : s.allSent) : s.settle.atRest := ⟨State.allSent_settle sent, s.granted_settle⟩

theorem State.atOnce_settle (sent : s.allSent) : s.settle.atOnce = s.atOnce := by
  rw [State.atOnce_of_atRest (State.atRest_settle sent), State.atOnce, State.sendAll_of_allSent sent]

/-- A taking that takes away nothing that is due is one from the state in which the grants are made. -/
theorem State.take_settle (sent : s.allSent) {row : TakeRow} {decide : State → Frame → State}
    {lost : State → Frame → Grantee → Bool}
    (kept : ∀ f, s.settle.takes p row f → ∀ g, s.due g → lost s f g = false) :
    s.take p row decide lost = s.settle.take p row decide lost := by
  have rest := State.atRest_settle sent
  obtain ⟨f, taken, ofRow, made⟩ | ⟨other, made⟩ := s.settle.take_cases p row decide lost
  · rw [State.sendAll_of_allSent rest.1] at taken made
    rw [made, State.grantsBefore_of_granted rest.2, State.take_of_settle_takes ⟨taken, ofRow, rest⟩ decide lost,
      State.grantsBefore_of_kept (kept f ⟨taken, ofRow, rest⟩)]
  · rw [State.sendAll_of_allSent rest.1] at other made
    obtain ⟨f, taken, ofRow, -⟩ | ⟨-, made'⟩ := s.take_cases p row decide lost
    · rw [State.sendAll_of_allSent sent, ← State.frameToTake_settle] at taken
      exact absurd ofRow (other f taken)
    · rw [made, made', State.sendAll_of_allSent sent, State.settle_of_granted rest.2]

/-- R31: a re-request that its rights check refuses takes its entry away. -/
theorem State.refused_of_lostAtRefusal {kind : EntryKind} {addr count : Nat} {g : Grantee}
    (h : s.lostAtRefusal p kind addr count g = true) :
    ∃ e, g = .entry e ∧ s.matching p kind addr count = some e ∧ (s.window e.window).rights[p].allows e.kind = false := by
  cases g with
  | entry e =>
    simp only [State.lostAtRefusal, Bool.and_eq_true, beq_iff_eq, Bool.not_eq_true'] at h
    exact ⟨e, rfl, h.1, h.2⟩
  | read q => cases h
  | write => cases h

/-- R60, R64: an accepted write takes the entries away whose fences it raises. -/
theorem State.fenced_of_lostAtWrite {addr : Nat} {data : List Byte} {g : Grantee} (h : s.lostAtWrite p addr data g = true) :
    ∃ e w, g = .entry e ∧ s.lookup addr = some w ∧ (s.window w).rights[p].allowsWrite = true ∧ s.queueRoom p = true ∧
      e.actedOn (s.window w).resource ((s.window w).translate addr) data.length = true := by
  cases g with
  | entry e =>
    simp only [State.lostAtWrite] at h
    cases found : s.lookup addr with
    | none => rw [found] at h; cases h
    | some w =>
      rw [found] at h
      simp only [Bool.and_eq_true] at h
      exact ⟨e, w, rfl, rfl, h.1.1, h.1.2, h.2⟩
  | read q => cases h
  | write => cases h

theorem Grantee.entry_of_ownedBy {q : PortId} {g : Grantee} (h : g.ownedBy q = true) : ∃ e, g = .entry e ∧ e.owner = q := by
  cases g with
  | entry e => exact ⟨e, rfl, beq_iff_eq.mp h⟩
  | read q => cases h
  | write => cases h

theorem Grantee.entry_of_ofWindow {w : WindowId} {g : Grantee} (h : g.ofWindow w = true) :
    ∃ e, g = .entry e ∧ e.window = w := by
  cases g with
  | entry e => exact ⟨e, rfl, beq_iff_eq.mp h⟩
  | read q => cases h
  | write => cases h

theorem bytesAt_of_windowIndex {value : List Byte} {w : WindowId} (h : windowIndex value = some w) :
    bytesAt value 0 1 = w.val := by
  unfold windowIndex at h
  split at h
  · cases h; rfl
  · cases h

theorem bytesAt_of_targetPort {value : List Byte} {t : PortId} (h : targetPort value = some t) :
    bytesAt value 0 1 = t.val := by
  unfold targetPort at h
  split at h
  · cases h; rfl
  · cases h

/-- R133, R152, R179: a claim-required write that passes the checks before its rule is one of the holder. -/
theorem State.takesHeldWrite_of_accepted {row : TakeRow} {r : Reg} {f : Frame} (taken : s.settle.takes p row f)
    (accepted : (s.writeRefusal p r (f.payload .ctlWrite)).isNone = true) (required : r.claimRequired = true)
    (register : r ≠ .pjoin) (width : r.width = 8) : s.settle.takesHeldWrite p row (f.payload .ctlWrite) := by
  obtain ⟨online, holds, -, length⟩ := State.writeRefusal_eq_none_iff.mp (Option.isNone_iff_eq_none.mp accepted)
  refine ⟨⟨f, taken, ?_, rfl, length.trans width⟩, ?_⟩
  · rw [State.online_settle]; exact online.resolve_right register
  · rw [State.holds_settle]; exact holds required

theorem State.granted_of_not_due (none : ∀ g, ¬s.due g) : s.granted :=
  ⟨Option.eq_none_iff_forall_ne_some.mpr fun g h => none g (.inl h),
    Option.eq_none_iff_forall_ne_some.mpr fun g h => none g (.inr h)⟩

theorem State.resolved_of_allSent (sent : s.allSent) : (s.sendOthers p).resolve p = s := by
  rw [State.sendOthers_of_none fun q _ => sent q, State.resolve_of_none (sent p)]

theorem State.dropLink_congr {x y : State} (granted : x.grantsBeforeLinkDown p = y.grantsBeforeLinkDown p) :
    x.dropLink p = y.dropLink p := by
  simp only [State.dropLink, granted]

theorem State.faulted_ports (s : State) (p : PortId) (cause : LinkDownCause) :
    (s.settle.faulted p cause).ports = (s.faulted p cause).ports := by
  refine State.ports_ext fun q => ?_
  rw [State.port_faulted, State.port_faulted, State.port_settle, State.port_settle]

/-- R131, R138: the grants before a link down, after the indication of its cause. -/
theorem State.grantsBeforeLinkDown_faulted (s : State) (p : PortId) (cause : LinkDownCause) :
    (s.faulted p cause).grantsBeforeLinkDown p =
      (s.grantsBefore (s.lostAtLinkDown p) (s.firstAtLinkDown p)).withPorts (s.faulted p cause).ports := by
  rw [State.grantsBeforeLinkDown_eq, State.lostAtLinkDown_faulted, State.firstAtLinkDown_faulted]
  conv_lhs => rw [State.faulted_eq]
  exact State.grantsBefore_withPorts (State.sameRead_faulted (fun _ => ⟨rfl, rfl⟩) cause)

/-- R138: a link down that takes away nothing that is due comes after the grants. -/
theorem exec_linkDown_settle (sent : s.allSent) (up : (s.port p).state ≠ .offline) (cause : LinkDownCause)
    (kept : ∀ g, s.due g → ¬(g = .read p ∨ ∃ e, g = .entry e ∧ e.owner = p ∧ s.online p = true)) :
    exec (.linkDown p cause) s = exec (.linkDown p cause) s.settle := by
  have sent' := State.allSent_settle sent
  have lost : ∀ g, s.due g → s.lostAtLinkDown p g = false := fun g due => by
    by_contra lost
    cases g with
    | read q =>
      simp only [State.lostAtLinkDown, Bool.not_eq_false, beq_iff_eq] at lost
      exact kept _ due (.inl (by rw [lost]))
    | write => exact lost rfl
    | entry e =>
      simp only [State.lostAtLinkDown, Bool.not_eq_false, Bool.and_eq_true, beq_iff_eq] at lost
      exact kept _ due (.inr ⟨e, rfl, lost.2, lost.1⟩)
  rw [exec_linkDown_of_up up, exec_linkDown_of_up (by rw [State.port_settle]; exact up), State.resolved_of_allSent sent,
    State.resolved_of_allSent sent']
  refine congrArg Host.Outcome.next (State.dropLink_congr ?_)
  rw [State.grantsBeforeLinkDown_faulted, State.grantsBeforeLinkDown_faulted, State.grantsBefore_of_kept lost,
    State.grantsBefore_of_granted s.granted_settle, State.faulted_ports]

end

section

variable {s : State}

/-- The grants that are due come first, but before what takes away what they would go to. -/
theorem exec_settle {c : Instr} (sent : s.allSent) (kept : ∀ g, s.due g → ¬s.takesAway c g) :
    exec c s = exec c s.settle := by
  have same := State.atOnce_settle sent
  have keeps : ∀ {p e} {g : Grantee}, g = .entry e → s.due g → _ → False := fun {p e g} hg due taken =>
    kept g due (.inr (.inr (.inr ⟨p, e, hg, taken⟩)))
  cases c with
  | storeClearingComplete =>
    change execStoreClearingComplete s = execStoreClearingComplete s.settle
    simp only [execStoreClearingComplete, same]
  | resetInputDeasserted =>
    change execResetInputDeasserted s = execResetInputDeasserted s.settle
    simp only [execResetInputDeasserted, same]
  | timebaseUnit =>
    change execTimebaseUnit s = execTimebaseUnit s.settle
    simp only [execTimebaseUnit, same]
  | linkUp p =>
    change execLinkUp p s = execLinkUp p s.settle
    simp only [execLinkUp, same]
  | lsAccessCompletion =>
    change execLsAccessCompletion s = execLsAccessCompletion s.settle
    simp only [execLsAccessCompletion, same]
  | addressTaken n =>
    change execAddressTaken n s = execAddressTaken n s.settle
    simp only [execAddressTaken, same]
  | writeBeatTaken n =>
    change execWriteBeatTaken n s = execWriteBeatTaken n s.settle
    simp only [execWriteBeatTaken, same]
  | readBeat n data =>
    change execReadBeat n data s = execReadBeat n data s.settle
    simp only [execReadBeat, same]
  | ending n how =>
    change execEnding n how s = execEnding n how s.settle
    simp only [execEnding, same]
  | expansionTimeout =>
    change execExpansionTimeout s = execExpansionTimeout s.settle
    simp only [execExpansionTimeout, same]
  | discardExpiry t =>
    change execDiscardExpiry t s = execDiscardExpiry t s.settle
    simp only [execDiscardExpiry, same]
  | leaseExpiry =>
    change execLeaseExpiry s = execLeaseExpiry s.settle
    simp only [execLeaseExpiry, same]
  | powerOn =>
    rw [State.settle_of_granted (State.granted_of_not_due fun g due => kept g due (.inl rfl))]
  | resetInputAsserted =>
    by_cases up : s.inReset = true
    · rw [exec_resetInputAsserted, exec_resetInputAsserted, same, if_pos up, if_pos (by rw [State.inReset_settle]; exact up)]
    · rw [State.settle_of_granted (State.granted_of_not_due fun g due =>
        kept g due (.inr (.inl ⟨rfl, Bool.eq_false_iff.mpr up⟩)))]
  | linkDown p cause =>
    by_cases offline : (s.port p).state = .offline
    · rw [exec_linkDown_of_offline offline, exec_linkDown_of_offline (by rw [State.port_settle]; exact offline), same]
    · exact exec_linkDown_settle sent offline cause fun g due lost =>
        kept g due (.inr (.inr (.inl ⟨p, offline, lost, .inl ⟨cause, rfl⟩⟩)))
  | frameArrival p f =>
    have port := s.port_settle (q := p)
    by_cases offline : (s.port p).state = .offline
    · rw [exec_frameArrival_of_offline offline, exec_frameArrival_of_offline (by rw [port]; exact offline), same]
    · by_cases room : (s.port p).buffer.length < 4
      · rw [exec_frameArrival_of_room offline room, exec_frameArrival_of_room (by rw [port]; exact offline) (by rw [port]; exact room),
          State.sendAll_of_allSent sent, State.sendAll_of_allSent (State.allSent_settle sent), State.receive_of_room room,
          State.receive_of_room (by rw [port]; exact room), State.settle_of_granted s.granted_settle]
      · have full : 4 ≤ (s.port p).buffer.length := Nat.not_lt.mp room
        rw [exec_frameArrival_of_overrun offline full f (by rw [State.resolved_of_allSent sent]),
          exec_frameArrival_of_overrun (by rw [port]; exact offline) (by rw [port]; exact full) f
            (by rw [State.resolved_of_allSent (State.allSent_settle sent)])]
        exact exec_linkDown_settle sent offline _ fun g due lost =>
          kept g due (.inr (.inr (.inl ⟨p, offline, lost, .inr ⟨⟨f, rfl⟩, full⟩⟩)))
  | read p =>
    refine congrArg Host.Outcome.next (State.take_settle sent fun f taken g due => ?_)
    by_contra lost
    simp only [Bool.not_eq_false, Bool.and_eq_true] at lost
    obtain ⟨⟨formed, online⟩, refused⟩ := lost
    obtain ⟨e, hg, found, denied⟩ := State.refused_of_lostAtRefusal refused
    exact keeps (p := p) hg due (.inl ⟨⟨f, .inl ⟨rfl, ⟨taken, formed, by rw [State.online_settle]; exact online⟩, found⟩⟩, denied⟩)
  | swap p =>
    refine congrArg Host.Outcome.next (State.take_settle sent fun f taken g due => ?_)
    by_contra lost
    simp only [Bool.not_eq_false, Bool.and_eq_true] at lost
    obtain ⟨⟨formed, online⟩, refused⟩ := lost
    obtain ⟨e, hg, found, denied⟩ := State.refused_of_lostAtRefusal refused
    exact keeps (p := p) hg due (.inl ⟨⟨f, .inr ⟨rfl, ⟨taken, formed, by rw [State.online_settle]; exact online⟩, found⟩⟩, denied⟩)
  | write p =>
    refine congrArg Host.Outcome.next (State.take_settle sent fun f taken g due => ?_)
    by_contra lost
    simp only [Bool.not_eq_false, Bool.and_eq_true] at lost
    obtain ⟨⟨formed, online⟩, fenced⟩ := lost
    obtain ⟨e, w, hg, found, rights, room, acted⟩ := State.fenced_of_lostAtWrite fenced
    exact keeps (p := p) hg due (.inr (.inl ⟨rfl, f, w, ⟨taken, formed, by rw [State.online_settle]; exact online⟩, found, rights, room, acted⟩))
  | purge p =>
    refine congrArg Host.Outcome.next (State.take_settle sent fun f taken g due => ?_)
    by_contra lost
    simp only [Bool.not_eq_false, Bool.and_eq_true] at lost
    obtain ⟨accepted, named⟩ := lost
    obtain ⟨w, index, named⟩ := (Option.any_eq_true ..).mp named
    obtain ⟨e, hg, rfl⟩ := Grantee.entry_of_ofWindow named
    exact keeps (p := p) hg due (.inr (.inr (.inl
      ⟨rfl, _, State.takesHeldWrite_of_accepted taken accepted rfl (by decide) rfl, bytesAt_of_windowIndex index⟩)))
  | leave p =>
    refine congrArg Host.Outcome.next (State.take_settle sent fun f taken g due => ?_)
    by_contra lost
    simp only [Bool.not_eq_false, Bool.and_eq_true] at lost
    obtain ⟨⟨accepted, online⟩, owned⟩ := lost
    obtain ⟨e, hg, rfl⟩ := Grantee.entry_of_ownedBy owned
    obtain ⟨-, -, -, length⟩ := State.writeRefusal_eq_none_iff.mp (Option.isNone_iff_eq_none.mp accepted)
    exact keeps (p := _) hg due (.inr (.inr (.inr (.inl ⟨rfl, rfl, online, f, taken, length⟩))))
  | evict p =>
    refine congrArg Host.Outcome.next (State.take_settle sent fun f taken g due => ?_)
    by_contra lost
    simp only [Bool.not_eq_false, Bool.and_eq_true] at lost
    obtain ⟨accepted, target⟩ := lost
    obtain ⟨t, index, target⟩ := (Option.any_eq_true ..).mp target
    simp only [Bool.and_eq_true, bne_iff_ne] at target
    obtain ⟨⟨other, online⟩, owned⟩ := target
    obtain ⟨e, hg, rfl⟩ := Grantee.entry_of_ownedBy owned
    exact keeps (p := p) hg due (.inr (.inr (.inr (.inr ⟨rfl, other, online, _,
      State.takesHeldWrite_of_accepted taken accepted rfl (by decide) rfl, bytesAt_of_targetPort index⟩))))
  | resend p | join p | acquire p | renew p | release p | enable p | disable p | rights p | notice p | evpop p | attnen p
  | wstgHost p | wstgSize p | wstgDest p | wstgRights p | discardIv p | leaseIv p | xbTimeout p | wviewSel p | tviewSel p
  | ctlWrite p => exact congrArg Host.Outcome.next (State.take_settle sent fun _ _ _ _ => rfl)

end

/-! ## Agents that stay busy (R98, R108) -/

section

variable {s t : State}

/-- Neither agent that is busy has been left free, and device reset is not in force. -/
structure State.StaysBusy (s t : State) : Prop where
  up : t.inReset = false
  store : s.store ≠ none → t.store ≠ none
  bus : ∀ b, s.xbm.bus = .active b → ∃ b', t.xbm.bus = .active b'

theorem State.StaysBusy.trans {u : State} (h : s.StaysBusy t) (h' : t.StaysBusy u) : s.StaysBusy u :=
  ⟨h'.up, fun busy => h'.store (h.store busy), fun b active => by
    obtain ⟨b', active'⟩ := h.bus b active
    exact h'.bus b' active'⟩

theorem State.StaysBusy.of_same (up : s.inReset = false) (reset : t.inReset = s.inReset) (store : t.store = s.store)
    (bus : t.xbm.bus = s.xbm.bus) : s.StaysBusy t :=
  ⟨reset.trans up, fun busy => by rw [store]; exact busy, fun b active => ⟨b, bus.trans active⟩⟩

/-- Only a part of a completion leaves an agent free. -/
theorem Move.staysBusy {k : MoveKind} (h : Move s k t) (noEnd : k ≠ .complete) (up : s.inReset = false) : s.StaysBusy t := by
  cases h with
  | grantPosition free =>
    exact ⟨by simpa [State.inReset] using up, fun busy => absurd free busy, fun b active => ⟨b, by simpa using active⟩⟩
  | grantStream idle =>
    refine ⟨by simpa [State.inReset] using up, fun busy => by simpa using busy, fun b active => ?_⟩
    rw [idle] at active; cases active
  | transaction active => exact ⟨up, id, fun _ _ => ⟨_, rfl⟩⟩
  | tick => exact ⟨up, id, fun b active => ⟨{ b with remaining := b.remaining - 1 }, by rw [State.tick, active]; rfl⟩⟩
  | leaveIdle | popHead | fetched | refetch | dropFetched => exact absurd rfl noEnd
  | resetInputs _ _ inForce => rw [up] at inForce; cases inForce
  | port | choose | allocate | accept | orphan | vacate | dismiss | disable | grantClaim | dropClaim | drive | memory =>
    exact .of_same up rfl rfl rfl

theorem Config.staysBusy (h : Config s t) (up : s.inReset = false) (stays : t.inReset = s.inReset) : s.StaysBusy t := by
  cases h with
  | reset input clearing mem held =>
    have inForce : (input || clearing) = false := stays.trans up
    rw [held] at inForce; cases inForce
  | discardInterval | leaseInterval | timeout | enable | rights => exact .of_same up rfl rfl rfl

/-- A run without a part of a completion that does not start device reset leaves no agent free that was busy. -/
theorem Runs.staysBusy {L : Scope} (noEnd : ¬L.completes) (noReset : L.config → ¬L.talk) (h : Runs L s t)
    (up : s.inReset = false) : s.StaysBusy t := by
  refine h.keeps (I := s.StaysBusy) (fun k u v ok hu move => hu.trans (move.staysBusy ?_ hu.up))
    (fun ok u v stays hu config => hu.trans (config.staysBusy hu.up (stays.resolve_left (noReset ok)).2))
    (.of_same up rfl rfl rfl)
  rintro rfl
  exact noEnd ok

/-- What the responses that leave before a command change is nothing to the agents. -/
theorem State.staysBusy_sendAll (up : s.inReset = false) : s.StaysBusy s.sendAll := .of_same up rfl rfl rfl

/-- R185: a command that the links hear of configures only where it starts device reset. -/
theorem starts_reset_of_configures_of_hears {c : Instr} (configures : c.configures = true) (hears : c.hears = true) :
    c = .powerOn ∨ c = .resetInputAsserted := by
  cases c with
  | powerOn => exact .inl rfl
  | resetInputAsserted => exact .inr rfl
  | linkUp | linkDown | frameArrival => cases configures
  | _ => cases hears

/-- A command that completes nothing and does not start device reset leaves no agent free that was busy. -/
theorem exec_staysBusy {c : Instr} (h : exec c s = .next t) (up : s.inReset = false) (noEnd : c.completes = false)
    (power : c ≠ .powerOn) (reset : c ≠ .resetInputAsserted) : s.StaysBusy t := by
  have ran := (exec_runs_from h).staysBusy (by simp [Instr.scope, noEnd]) fun configures hears =>
    (starts_reset_of_configures_of_hears configures hears).elim power reset
  obtain start | start := start_cases c s
  · rw [start] at ran; exact ran up
  · rw [start] at ran; exact (State.staysBusy_sendAll up).trans (ran up)

/-- R100, R117: what stands after the grant at an agent: nothing requests it while it is free. -/
theorem State.no_requests_of_granted (granted : s.granted) (up : s.inReset = false) :
    (s.store = none → ∀ pos, s.positionRequests pos = false) ∧
      (s.xbm.bus = .idle → s.drainRequests .xb = false ∧ s.fetchRequests .xb = false) :=
  ⟨State.storeGrantee_eq_none_iff.mp granted.1 up, State.busGrantee_eq_none_iff.mp granted.2⟩

theorem State.positionRequests_deviceReset (s : State) (input clearing : Bool) (mem : Memory) (pos : Position) :
    ({ s.deviceReset with resetInput := input, clearing := clearing, mem := mem } : State).positionRequests pos = false := by
  obtain ⟨ports, -, drt, -, pwq, -⟩ := s.deviceReset_spec input clearing mem
  cases pos with
  | port p =>
    obtain ⟨left, -, port⟩ := ports p
    rw [State.positionRequests, port]; rfl
  | drain => rw [State.positionRequests, State.drainRequests, pwq]
  | fetch => rw [State.positionRequests, State.fetchRequests, drt]; rfl

/-! ## Agents that are left free -/

/-- R100, R117: an agent that is left free is left without a request. -/
structure State.LeavesNoRequest (s t : State) : Prop where
  store : s.store ≠ none → t.store = none → ∀ pos, t.positionRequests pos = false
  bus : ∀ b, s.xbm.bus = .active b → t.xbm.bus = .idle → t.drainRequests .xb = false ∧ t.fetchRequests .xb = false

theorem State.StaysBusy.leavesNoRequest (h : s.StaysBusy t) : s.LeavesNoRequest t where
  store busy free := absurd free (h.store busy)
  bus b active idle := by
    obtain ⟨b', still⟩ := h.bus b active
    rw [idle] at still; cases still

theorem State.StaysBusy.then {u : State} (h : s.StaysBusy t) (h' : t.LeavesNoRequest u) : s.LeavesNoRequest u where
  store busy := h'.store (h.store busy)
  bus b active := by
    obtain ⟨b', still⟩ := h.bus b active
    exact h'.bus b' still

/-- R117: the bus is granted again where a transaction has ended. -/
theorem State.leavesNoRequest_grantBus (store : t.store = s.store) : s.LeavesNoRequest t.grantBus where
  store busy free := by rw [State.grantBus_store, store] at free; exact absurd free busy
  bus _ _ idle := State.busGrantee_eq_none_iff.mp (State.busGrantee_grantBus t) idle

/-- R100: the store is granted again where an access has completed. -/
theorem State.leavesNoRequest_grantStore (up : t.inReset = false) (bus : t.xbm = s.xbm) : s.LeavesNoRequest t.grantStore where
  store _ free := State.storeGrantee_eq_none_iff.mp (State.storeGrantee_grantStore t) (by simpa [State.inReset] using up) free
  bus b active idle := by rw [State.grantStore_xbm, bus, active] at idle; cases idle

theorem State.leavesNoRequest_expireDueTransaction (up : s.inReset = false) : s.LeavesNoRequest s.expireDueTransaction := by
  unfold State.expireDueTransaction
  split
  · split
    · exact State.leavesNoRequest_grantBus
        (State.completeTransaction_store (s := { s with busItems := s.busItems ++ [BusItem.abort] }) ..)
    · exact (State.StaysBusy.of_same up rfl rfl rfl).leavesNoRequest
  · exact (State.StaysBusy.of_same up rfl rfl rfl).leavesNoRequest

theorem State.LeavesNoRequest.tick (h : s.LeavesNoRequest t) : s.LeavesNoRequest t.tick := by
  have fetches : ∀ r, t.tick.fetchRequests r = true → t.fetchRequests r = true := fun r => fetchRequests_of_entries
    (fun x hx ready => by
      obtain ⟨y, hy, rfl⟩ := List.mem_map.mp hx
      exact ⟨y, hy, by rwa [Entry.eligible_tick] at ready⟩)
    fun x hx busy => ⟨x.tick, List.mem_map_of_mem hx, by rw [Entry.tick_of_occupies busy]; exact busy⟩
  refine ⟨fun busy free pos => ?_, fun b active idle => ?_⟩
  · have before := h.store busy free pos
    cases pos with
    | port p => exact before
    | drain => exact before
    | fetch => exact Bool.eq_false_iff.mpr fun requests => by rw [State.positionRequests, fetches .ls requests] at before; cases before
  · obtain ⟨drain, fetch⟩ := h.bus b active (BusState.tick_eq_idle.mp idle)
    exact ⟨drain, Bool.eq_false_iff.mpr fun requests => by rw [fetches .xb requests] at fetch; cases fetch⟩

theorem State.staysBusy_atOnce (up : s.inReset = false) : s.StaysBusy s.atOnce :=
  (State.staysBusy_sendAll up).trans ((runs_settle (L := .timers) s.sendAll).staysBusy id (fun _ => id) up)

/-- A command that leaves an agent free that was busy leaves no request at it. -/
theorem exec_leavesNoRequest {c : Instr} (h : exec c s = .next t) (up : s.inReset = false) : s.LeavesNoRequest t := by
  have atOnce := s.staysBusy_atOnce up
  cases c with
  | powerOn =>
    cases h
    exact ⟨fun _ _ => s.positionRequests_deviceReset _ _ _, fun _ _ idle => by cases idle⟩
  | resetInputAsserted =>
    rw [exec_resetInputAsserted, if_neg (by rw [up]; simp)] at h
    cases h
    exact ⟨fun _ _ => s.positionRequests_deviceReset true s.deviceReset.clearing s.deviceReset.mem, fun _ _ idle => by cases idle⟩
  | lsAccessCompletion =>
    simp only [exec, execLsAccessCompletion] at h
    split at h
    · cases h; exact atOnce.leavesNoRequest
    · split at h
      · cases h
        refine atOnce.then (State.leavesNoRequest_grantStore ?_ (State.completeAccess_xbm ..))
        simpa [State.inReset] using up
      · cases h
  | ending n how =>
    refine atOnce.then ?_
    cases h
    split
    · exact State.leavesNoRequest_grantBus (State.completeTransaction_store ..)
    · exact (State.StaysBusy.of_same atOnce.up rfl rfl rfl).leavesNoRequest
  | expansionTimeout =>
    cases h
    exact atOnce.then (State.leavesNoRequest_expireDueTransaction atOnce.up)
  | timebaseUnit =>
    have made : s.atOnce.expireDue.tick = t := by injection h
    rw [← made, State.expireDue]
    have expired := atOnce.trans (((runs_expireTags (L := .timers) tagIds s.atOnce).trans (runs_expireDueLease _)).staysBusy
      id (fun _ => id) atOnce.up)
    exact expired.then (State.leavesNoRequest_expireDueTransaction expired.up).tick
  | _ => exact (exec_staysBusy h up rfl Instr.noConfusion Instr.noConfusion).leavesNoRequest

end

/-! ## No request arises (R99, R100, R117) -/

section

variable {s t : State}

/-- While device reset is in force nothing requests, and nothing does when it has ended. -/
theorem State.granted_releaseReset (buffers : s.buffersOk) (quiet : s.resetQuiet) (up : s.inReset = true)
    (input clearing : Bool) : ({ s with resetInput := input, clearing := clearing } : State).releaseReset.granted := by
  obtain ⟨offline, -, drt, pwq, -⟩ := quiet.2 up
  rw [State.granted, State.storeGrantee_eq_none_iff, State.busGrantee_eq_none_iff]
  refine ⟨fun _ _ pos => ?_, fun _ => ?_⟩
  · cases pos with
    | port p =>
      have held : (s.port p).inHand = none := ((buffers p).2.2 (offline p)).2
      rw [State.positionRequests, State.port, State.releaseReset_ports]
      have none : (s.port p).readInHand.isSome = false := by rw [Port.readInHand, held]; rfl
      change ((s.port p).readInHand.isSome && _ && _) = false
      rw [none]; rfl
    | drain => rw [State.positionRequests, State.drainRequests, State.releaseReset_pwq, show _ = [] from pwq]
    | fetch => rw [State.positionRequests, State.fetchRequests, State.releaseReset_drt, show _ = [] from drt]; rfl
  · rw [State.drainRequests, State.fetchRequests, State.releaseReset_pwq, State.releaseReset_drt,
      show State.pwq _ = [] from pwq, show State.drt _ = [] from drt]
    exact ⟨rfl, rfl⟩

/-- A run that admits nothing and completes nothing makes no request, the end of device reset included. -/
theorem Runs.granted_of_quiet {L : Scope} (noEntry : ¬L.admits) (noEnd : ¬L.completes) (h : Runs L s t)
    (distinct : s.tagsDistinct) (buffers : s.buffersOk) (quiet : s.resetQuiet) (granted : s.granted) : t.granted := by
  refine (h.keeps (I := fun u => u.tagsDistinct ∧ u.buffersOk ∧ u.resetQuiet ∧ u.granted) (fun k u v ok hu move => ?_)
    (fun _ u v _ hu config => ?_) ⟨distinct, buffers, quiet, granted⟩).2.2.2
  · obtain ⟨distinct, buffers, quiet, granted⟩ := hu
    refine ⟨kept_tagsDistinct.move u v distinct move, kept_buffersOk.move u v buffers move, kept_resetQuiet.move u v quiet move, ?_⟩
    by_cases reset : k = .reset
    · subst reset
      cases move with
      | port move => cases move
      | resetInputs input clearing up => exact State.granted_releaseReset buffers quiet up input clearing
    · refine move.granted ?_ ?_ ?_ reset distinct granted
      · rintro rfl; exact noEntry ok
      · rintro p rfl; exact noEntry ok.2
      · rintro rfl; exact noEnd ok
  · obtain ⟨distinct, buffers, quiet, granted⟩ := hu
    exact ⟨kept_tagsDistinct.config u v distinct config, kept_buffersOk.config u v buffers config,
      kept_resetQuiet.config u v quiet config, config.granted granted⟩

/-- The same for a command, whose decided responses have left first. -/
theorem exec_granted {c : Instr} (h : exec c s = .next t) (noEntry : c.admits = false) (noEnd : c.completes = false)
    (distinct : s.tagsDistinct) (buffers : s.buffersOk) (quiet : s.resetQuiet) (granted : s.granted) : t.granted := by
  have whole : Runs { c.scope with talk := True } s t := by
    have allowed : ∀ k : MoveKind, k.allowed c.scope → k.allowed { c.scope with talk := True } := fun k ok => by
      cases k with
      | talk => trivial
      | _ => exact ok
    have ran := Runs.weaken (L := c.scope) (L' := { c.scope with talk := True }) id (fun _ => trivial) allowed (exec_runs_from h)
    obtain start | start := start_cases c s
    · rwa [start] at ran
    · rw [start] at ran
      exact (runs_sendAll s trivial).trans ran
  exact whole.granted_of_quiet (by simp [Instr.scope, noEntry]) (by simp [Instr.scope, noEnd]) distinct buffers quiet granted

/-- The commands that neither bring a request to an arbiter nor let an agent complete. -/
theorem Instr.admits_completes_of_ne {c : Instr} (requests : ∀ p, c ≠ .read p ∧ c ≠ .write p ∧ c ≠ .swap p)
    (access : c ≠ .lsAccessCompletion) (ending : ∀ n how, c ≠ .ending n how) (timeout : c ≠ .expansionTimeout)
    (unit : c ≠ .timebaseUnit) : c.admits = false ∧ c.completes = false := by
  cases c with
  | read p => exact absurd rfl (requests p).1
  | write p => exact absurd rfl (requests p).2.1
  | swap p => exact absurd rfl (requests p).2.2
  | lsAccessCompletion => exact absurd rfl access
  | ending n how => exact absurd rfl (ending n how)
  | expansionTimeout => exact absurd rfl timeout
  | timebaseUnit => exact absurd rfl unit
  | _ => exact ⟨rfl, rfl⟩

end

/-- Settles O60: a step without a command settles; the grants come before what takes nothing of theirs away; an agent that is
left free has been granted again; and no other move makes a request. -/
theorem arbitersStayWorkConserving : Obligations.ArbitersStayWorkConserving := by
  refine ⟨fun s empty => ⟨s.atOnce, ?_, State.workConserving_iff.mpr s.atRest_atOnce.2⟩,
    fun c s distinct sent kept => exec_settle sent kept, fun c s t up h => ?_,
    fun c s t distinct buffers quiet conserving h requests access ending timeout unit => ?_⟩
  · unfold step
    rw [empty]
  · have left := exec_leavesNoRequest h up
    exact ⟨left.store, left.bus⟩
  · obtain ⟨noEntry, noEnd⟩ := Instr.admits_completes_of_ne requests access ending timeout unit
    exact State.workConserving_iff.mpr
      (exec_granted h noEntry noEnd distinct buffers quiet (State.workConserving_iff.mp conserving))

end Sys2Proof.Machine
end

section
/-! SUPPORT. What a command says to the hosts: what a port sends and loses, that a frame that is taken is answered, and that
what has been decided leaves before the next command; and the statement about it. -/

/- The proofs are checked one after another: each that waits for the kernel holds the stack of a thread. -/
set_option Elab.async false

namespace Sys2Proof.Machine

/-! ## What moves say (R132, R143) -/

section

variable {s t : State} {p : PortId}

/-- A move that no link hears sends nothing and leaves the frames; the request in hand changes where the port answers. -/
theorem PortMove.quiet {port' : Port} {k : MoveKind} (h : PortMove s p k port') (noTalk : k ≠ .talk) :
    port'.sent = (s.port p).sent ∧ port'.buffer = (s.port p).buffer ∧
      (k ≠ .answer p → k ≠ .read p → port'.inHand = (s.port p).inHand) := by
  cases h with
  | offer r => rw [Port.offer_frame]; exact ⟨rfl, rfl, fun _ _ => rfl⟩
  | answer r h => exact ⟨rfl, rfl, fun no => absurd rfl no⟩
  | read => exact ⟨rfl, rfl, fun _ no => absurd rfl no⟩
  | send | receive | linkUp | unlink | unlinkTorn | linkFault => exact absurd rfl noTalk
  | undrop | join | detach | pop | stage | wviewSel | tviewSel | attn => exact ⟨rfl, rfl, fun _ _ => rfl⟩

/-- A run that no link hears sends nothing and leaves every frame, and leaves the requests of ports that do not answer. -/
theorem Runs.quiet {L : Scope} (noTalk : ¬L.talk) (h : Runs L s t) (p : PortId) :
    (t.port p).sent = (s.port p).sent ∧ (t.port p).buffer = (s.port p).buffer ∧
      (¬L.answers p → (t.port p).inHand = (s.port p).inHand) := by
  refine h.keeps (I := fun u => (u.port p).sent = (s.port p).sent ∧ (u.port p).buffer = (s.port p).buffer ∧
    (¬L.answers p → (u.port p).inHand = (s.port p).inHand)) (fun k u v ok hu move => ?_) (fun _ u v still hu _ => ?_)
    ⟨rfl, rfl, fun _ => rfl⟩
  · obtain same | moved := move.port_cases p
    · rw [same]; exact hu
    · obtain ⟨sent, buffer, inHand⟩ := moved.quiet (by rintro rfl; exact noTalk ok)
      refine ⟨sent.trans hu.1, buffer.trans hu.2.1, fun no => (inHand ?_ ?_).trans (hu.2.2 no)⟩
      · rintro rfl; exact no ok
      · rintro rfl; exact no ok.1
  · rw [State.port, (still.resolve_left noTalk).1]; exact hu

end

/-! ## A frame that is taken is answered (R132) -/

section

variable {s u : State} {p : PortId} {f : Frame}

/-- R132: a response is decided for the request that a port has taken. -/
def State.answered (s : State) (p : PortId) : Prop :=
  ∃ r : Response, (s.port p).inHand = some (.decided r)

theorem State.answered_answer (s : State) (p : PortId) (r : Response) : (s.answer p r).answered p :=
  ⟨r, by rw [State.port_answer, if_pos rfl]; rfl⟩

theorem State.answered_refuse (s : State) (p : PortId) (r : RefusedReason) : (s.refuse p r).answered p :=
  s.answered_answer p (.refused r)

theorem State.answered_conclude (s : State) (p : PortId) (verdict : Verdict) : (s.conclude p verdict).answered p := by
  cases verdict with
  | done v => exact v.answered_answer p _
  | refused r => exact s.answered_refuse p r

theorem State.answered_controlWrite (s : State) (p : PortId) (r : Reg) (value : List Byte) (rule : Verdict) :
    (s.controlWrite p r value rule).answered p := by
  cases refusal : s.writeRefusal p r value with
  | some reason => rw [State.controlWrite_of_refused refusal]; exact s.answered_refuse p reason
  | none => rw [State.controlWrite_of_accepted refusal]; exact s.answered_conclude p rule

theorem State.answered_rerequest (s : State) (p : PortId) (e : Entry) : (s.rerequest p e).answered p := by
  unfold State.rerequest
  split
  · split
    · exact State.answered_answer _ p _
    · exact State.answered_answer _ p _
  · exact State.answered_refuse _ p _

theorem State.answered_delay (s : State) (p : PortId) (kind : EntryKind) (addr count : Nat) (w : WindowId) :
    (s.delay p kind addr count w).answered p := by
  unfold State.delay
  split
  · split
    · exact State.answered_answer _ p _
    · exact State.answered_answer _ p _
  · exact State.answered_answer _ p _

theorem State.answered_takeRead (s : State) (p : PortId) (addr count : Nat) :
    (s.takeRead p addr count).answered p ∨ ∃ r : ReadInHand, ((s.takeRead p addr count).port p).inHand = some (.read r) := by
  unfold State.takeRead
  split
  · exact .inl (s.answered_rerequest p _)
  · unfold State.newRead
    split
    · exact .inl (s.answered_refuse p _)
    · rename_i w found
      simp only []
      split
      · exact .inl (s.answered_refuse p _)
      · split
        · exact .inr ⟨_, by rw [State.startImmediate, State.port_modifyPort, if_pos rfl]⟩
        · exact .inl (s.answered_delay p ..)

theorem State.answered_takeWrite (s : State) (p : PortId) (addr : Nat) (data : List Byte) :
    (s.takeWrite p addr data).answered p := by
  unfold State.takeWrite
  split
  · exact s.answered_refuse p _
  · split
    · exact s.answered_refuse p _
    · split
      · exact s.answered_answer p _
      · exact State.answered_answer _ p _

theorem State.answered_takeSwap (s : State) (p : PortId) (addr : Nat) (compareValue swapValue : List Byte) :
    (s.takeSwap p addr compareValue swapValue).answered p := by
  unfold State.takeSwap
  split
  · exact s.answered_rerequest p _
  · unfold State.newSwap
    split
    · exact s.answered_refuse p _
    · split
      · exact s.answered_refuse p _
      · split
        · exact s.answered_refuse p _
        · exact s.answered_delay p ..

theorem State.answered_ctlWrite (s : State) (p : PortId) (f : Frame) :
    (if !f.wellFormed then s.refuse p .malformed
      else if f.kind == some .ctlRead then s.controlRead p f.offset f.count
      else s.otherWrite p f.offset (f.payload .ctlWrite)).answered p := by
  split
  · exact s.answered_refuse p _
  · split
    · unfold State.controlRead
      split
      · exact s.answered_refuse p _
      · split
        · exact s.answered_answer p _
        · exact s.answered_refuse p _
    · unfold State.otherWrite
      split
      · exact s.answered_controlWrite p _ _ _
      · split
        · exact s.answered_refuse p _
        · exact s.answered_refuse p _

/-- What the meaning of a row decides after the grants is what the command leaves. -/
theorem State.take_keeps {P : State → Prop} {row : TakeRow} (taken : s.settle.takes p row f) (decide : State → Frame → State)
    (lost : State → Frame → Grantee → Bool := fun _ _ _ => false) (all : ∀ u, P (decide u f)) : P (s.take p row decide lost) := by
  rw [State.take_of_settle_takes taken decide lost]
  exact all _

/-- R132: a frame that is taken is answered, or is a READ that is in hand. -/
theorem exec_answered {row : TakeRow} (taken : s.settle.takes p row f) (h : exec (row.command p) s = .next u) :
    u.answered p ∨ (row = .read ∧ ∃ r : ReadInHand, (u.port p).inHand = some (.read r)) := by
  cases row with
  | read =>
    cases h
    refine State.take_keeps (P := fun u => u.answered p ∨ (_ ∧ ∃ r : ReadInHand, (u.port p).inHand = some (.read r))) taken _ _ fun u => ?_
    split
    · exact .inl (u.answered_refuse p _)
    · split
      · exact .inl (u.answered_refuse p _)
      · exact (u.answered_takeRead p _ _).imp_right fun held => ⟨rfl, held⟩
  | write =>
    cases h
    refine .inl (State.take_keeps (P := fun u => u.answered p) taken _ _ fun u => ?_)
    split
    · exact u.answered_refuse p _
    · split
      · exact u.answered_refuse p _
      · exact u.answered_takeWrite p _ _
  | swap =>
    cases h
    refine .inl (State.take_keeps (P := fun u => u.answered p) taken _ _ fun u => ?_)
    split
    · exact u.answered_refuse p _
    · split
      · exact u.answered_refuse p _
      · exact u.answered_takeSwap p _ _ _
  | resend => cases h; exact .inl (State.take_keeps (P := fun u => u.answered p) taken _ _ fun u => u.answered_answer p _)
  | evpop =>
    cases h
    refine .inl (State.take_keeps (P := fun u => u.answered p) taken _ _ fun u => ?_)
    split
    · exact State.answered_answer _ p _
    · exact u.answered_refuse p _
  | ctlWrite => cases h; exact .inl (State.take_keeps (P := fun u => u.answered p) taken _ _ fun u => u.answered_ctlWrite p f)
  | _ => cases h; exact .inl (State.take_keeps (P := fun u => u.answered p) taken _ _ fun u => u.answered_controlWrite p _ _ _)

end

/-! ## Decided responses leave before the next command (R132, R143) -/

section

variable {s u : State} {p : PortId}

theorem State.atOnce_sendAll (s : State) : s.sendAll.atOnce = s.atOnce := by
  rw [State.atOnce, State.sendAll_sendAll, State.atOnce]

theorem Port.send_buffer_le (port : Port) : port.send.buffer.length ≤ port.buffer.length := by
  unfold Port.send
  split
  · exact (List.length_tail ..).trans_le (Nat.sub_le ..)
  · exact le_rfl

/-- Every command but those that may come before a response leaves comes after the responses that are decided. -/
theorem exec_sendAll {c : Instr} (power : c ≠ .powerOn) (reset : c = .resetInputAsserted → s.inReset = true)
    (down : ∀ p cause, c = .linkDown p cause → (s.port p).state = .offline)
    (frame : ∀ p f, c = .frameArrival p f → (s.port p).state = .offline ∨ (s.port p).buffer.length < 4) :
    exec c s.sendAll = exec c s := by
  have same := s.atOnce_sendAll
  cases c with
  | powerOn => exact absurd rfl power
  | resetInputAsserted =>
    rw [exec_resetInputAsserted, exec_resetInputAsserted, if_pos (reset rfl), if_pos (by exact reset rfl), same]
  | linkDown p cause =>
    have offline := down p cause rfl
    rw [exec_linkDown_of_offline offline, exec_linkDown_of_offline (by rw [State.port_sendAll, Port.send_state]; exact offline), same]
  | frameArrival p f =>
    have state : (s.sendAll.port p).state = (s.port p).state := by rw [State.port_sendAll, Port.send_state]
    by_cases offline : (s.port p).state = .offline
    · rw [exec_frameArrival_of_offline offline, exec_frameArrival_of_offline (state.trans offline), same]
    · have room := (frame p f rfl).resolve_left offline
      have room' : (s.sendAll.port p).buffer.length < 4 := by
        rw [State.port_sendAll]; exact (Port.send_buffer_le _).trans_lt room
      rw [exec_frameArrival_of_room offline room, exec_frameArrival_of_room (by rw [state]; exact offline) room',
        State.sendAll_sendAll]
  | storeClearingComplete =>
    change execStoreClearingComplete s.sendAll = execStoreClearingComplete s
    simp only [execStoreClearingComplete, same]
  | resetInputDeasserted =>
    change execResetInputDeasserted s.sendAll = execResetInputDeasserted s
    simp only [execResetInputDeasserted, same]
  | timebaseUnit =>
    change execTimebaseUnit s.sendAll = execTimebaseUnit s
    simp only [execTimebaseUnit, same]
  | linkUp p =>
    change execLinkUp p s.sendAll = execLinkUp p s
    simp only [execLinkUp, same]
  | lsAccessCompletion =>
    change execLsAccessCompletion s.sendAll = execLsAccessCompletion s
    simp only [execLsAccessCompletion, same]
  | addressTaken n =>
    change execAddressTaken n s.sendAll = execAddressTaken n s
    simp only [execAddressTaken, same]
  | writeBeatTaken n =>
    change execWriteBeatTaken n s.sendAll = execWriteBeatTaken n s
    simp only [execWriteBeatTaken, same]
  | readBeat n data =>
    change execReadBeat n data s.sendAll = execReadBeat n data s
    simp only [execReadBeat, same]
  | ending n how =>
    change execEnding n how s.sendAll = execEnding n how s
    simp only [execEnding, same]
  | expansionTimeout =>
    change execExpansionTimeout s.sendAll = execExpansionTimeout s
    simp only [execExpansionTimeout, same]
  | discardExpiry t =>
    change execDiscardExpiry t s.sendAll = execDiscardExpiry t s
    simp only [execDiscardExpiry, same]
  | leaseExpiry =>
    change execLeaseExpiry s.sendAll = execLeaseExpiry s
    simp only [execLeaseExpiry, same]
  | resend p | read p | write p | swap p | join p | leave p | acquire p | renew p | release p | enable p | disable p | purge p
  | rights p | evict p | notice p | evpop p | attnen p | wstgHost p | wstgSize p | wstgDest p | wstgRights p | discardIv p
  | leaseIv p | xbTimeout p | wviewSel p | tviewSel p | ctlWrite p =>
    exact congrArg Host.Outcome.next (State.take_sendAll s p _ _ _)

theorem State.sendAll_sendOthers (s : State) (p : PortId) : (s.sendOthers p).sendAll = s.sendAll := by
  refine State.eq_of_ports rfl fun q => ?_
  rw [State.port_sendAll, State.port_sendOthers, State.port_sendAll]
  split
  · rfl
  · rw [Port.send_of_none (Port.send_decided _)]

/-- A link down and a frame that arrives come after the responses of the other ports. -/
theorem exec_sendOthers {c : Instr} (link : (∃ cause, c = .linkDown p cause) ∨ ∃ f, c = .frameArrival p f) :
    exec c (s.sendOthers p) = exec c s := by
  have port : (s.sendOthers p).port p = s.port p := by rw [State.port_sendOthers, if_pos rfl]
  have same : (s.sendOthers p).atOnce = s.atOnce := by rw [State.atOnce, State.sendAll_sendOthers]; rfl
  obtain ⟨cause, rfl⟩ | ⟨f, rfl⟩ := link
  · by_cases offline : (s.port p).state = .offline
    · rw [exec_linkDown_of_offline offline, exec_linkDown_of_offline (by rw [port]; exact offline), same]
    · rw [exec_linkDown_of_up offline, exec_linkDown_of_up (by rw [port]; exact offline), State.sendOthers_sendOthers]
  · by_cases offline : (s.port p).state = .offline
    · rw [exec_frameArrival_of_offline offline, exec_frameArrival_of_offline (by rw [port]; exact offline), same]
    · by_cases room : (s.port p).buffer.length < 4
      · rw [exec_frameArrival_of_room offline room,
          exec_frameArrival_of_room (by rw [port]; exact offline) (by rw [port]; exact room), State.sendAll_sendOthers]
      · have full := Nat.not_lt.mp room
        rw [exec_frameArrival_of_full offline full,
          exec_frameArrival_of_full (by rw [port]; exact offline) (by rw [port]; exact full), State.sendOthers_sendOthers]

/-- What is left of a port whose response has left, and of one that has decided none. -/
theorem Port.eq_send {a b : Port} (decided : ∀ r, a.inHand = some (.decided r) →
      b = { a with buffer := a.buffer.tail, inHand := none, sent := a.sent ++ [.response r] })
    (none : (∀ r, a.inHand ≠ some (.decided r)) → b = a) : b = a.send := by
  cases held : a.inHand with
  | none => rw [none (by simp [held]), Port.send_of_none (by simp [Port.decided, held])]
  | some h =>
    cases h with
    | decided r => rw [decided r held, Port.send_of_decided held]
    | read r => rw [none (by simp [held]), Port.send_of_none (by simp [Port.decided, held])]


/-- From where `leaves` says so, and from there alone, the decided responses have left. -/
theorem State.gone_send {leaves : PortId → Prop} (eq : u = { s with ports := u.ports })
    (gone : ∀ p, (leaves p → ∀ r, (s.port p).inHand = some (.decided r) → u.port p =
        { s.port p with
          buffer := (s.port p).buffer.tail, inHand := none, sent := (s.port p).sent ++ [.response r] }) ∧
      ((leaves p → ∀ r, (s.port p).inHand ≠ some (.decided r)) → u.port p = s.port p)) {v : State}
    (same : v = { s with ports := v.ports })
    (ports : ∀ p, (leaves p → v.port p = (s.port p).send) ∧ (¬leaves p → v.port p = s.port p)) : v = u := by
  have byPorts : v = u.withPorts v.ports := by rw [same, eq]; rfl
  refine State.eq_of_ports byPorts fun p => ?_
  by_cases hp : leaves p
  · rw [(ports p).1 hp]
    exact (Port.eq_send ((gone p).1 hp) (fun none => (gone p).2 fun _ => none)).symm
  · rw [(ports p).2 hp]
    exact ((gone p).2 fun h => absurd h hp).symm

end

/-! ## What a port sends in one command -/

section

variable {s t u : State} {p q : PortId} {left : List LinkItem}

/-- R132, R143: between two of its records a port has sent nothing, or the response it had decided, or after either a
LINK_FAULT indication; a response that has not left is discarded with the link, which only some commands (`drops`) do. -/
def Port.spoke (before after : Port) (drops : Prop) : Prop :=
  ∃ left, before.mayLeave left ∧ (after.sent = before.sent ++ left ∨ after.sent = before.sent ++ left ++ [.linkFault]) ∧
    (left = [] → ∀ r, before.inHand = some (.decided r) → drops ∧ after.state = .offline ∧ after.inHand = none)

theorem Port.inHand_of_decided {port : Port} {r : Response} (decided : port.decided = some r) :
    port.inHand = some (.decided r) := by
  unfold Port.decided at decided
  split at decided
  · cases decided; assumption
  · cases decided

theorem Port.spoke_of_send {before after : Port} {drops : Prop} (sent : after.sent = before.send.sent) :
    before.spoke after drops := by
  cases decided : before.decided with
  | none =>
    refine ⟨[], .inl rfl, .inl ?_, fun _ r held => ?_⟩
    · rw [sent, Port.send_of_none decided, List.append_nil]
    · simp [Port.decided, held] at decided
  | some r =>
    have held := Port.inHand_of_decided decided
    exact ⟨[.response r], .inr ⟨r, held, rfl⟩, .inl (by rw [sent, Port.send_of_decided held]), fun no => by cases no⟩

theorem Port.spoke_of_offline {before after : Port} {drops : Prop} (may : before.mayLeave left)
    (sent : after.sent = before.sent ++ left ∨ after.sent = before.sent ++ left ++ [.linkFault]) (dropped : drops)
    (state : after.state = .offline) (inHand : after.inHand = none) : before.spoke after drops :=
  ⟨left, may, sent, fun _ _ _ => ⟨dropped, state, inHand⟩⟩

/-- R143: the commands that may come before a response leaves, as they take the link of its port down. -/
def dropsLink (c : Instr) (p : PortId) : Prop :=
  c = .powerOn ∨ c = .resetInputAsserted ∨ (∃ cause, c = .linkDown p cause) ∨ ∃ f, c = .frameArrival p f

theorem State.sent_atOnce (s : State) (p : PortId) : (s.atOnce.port p).sent = (s.port p).send.sent := by
  rw [State.atOnce, State.port_settle, State.port_sendAll]

/-- A link that goes down leaves what was sent, with the indication of a fault, and no request in hand. -/
theorem State.port_dropLink_faulted (up : (u.port p).state ≠ .offline) (cause : LinkDownCause) :
    (((u.faulted p cause).dropLink p).port p).sent =
        (u.port p).sent ++ (if cause = LinkDownCause.linkFault then [LinkItem.linkFault] else []) ∧
      (((u.faulted p cause).dropLink p).port p).state = .offline ∧
      (((u.faulted p cause).dropLink p).port p).inHand = none ∧
      ∀ q, q ≠ p → (((u.faulted p cause).dropLink p).port q).sent = (u.port q).sent := by
  obtain ⟨v, -, own, others, drops⟩ :=
    State.dropLink_faulted (p := p) u.withPorts_ports.symm (fun _ => ⟨rfl, rfl⟩) up cause
  rw [drops]
  split
  · have same := v.sameTalk_teardown p p .link
    refine ⟨by rw [same.sent, own], by rw [same.state, own], by rw [same.inHand, own], fun q hq => ?_⟩
    rw [(v.sameTalk_teardown p q .link).sent, others q hq]
  · exact ⟨by rw [own], by rw [own], by rw [own], fun q hq => by rw [others q hq]⟩

/-- A link down at a port whose response is resolved: the response leaves or is discarded with the link. -/
theorem State.spoke_dropLink (up : (s.port p).state ≠ .offline) (cause : LinkDownCause) {drops : PortId → Prop} (here : drops p)
    (q : PortId) :
    (s.port q).spoke (((((s.sendOthers p).resolve p).faulted p cause).dropLink p).port q) (drops q) := by
  have state : (((s.sendOthers p).resolve p).port p).state = (s.port p).state := by
    rw [State.resolve_state, State.port_sendOthers, if_pos rfl]
  obtain ⟨sent, offline, inHand, others⟩ := State.port_dropLink_faulted (by rw [state]; exact up) cause
  by_cases hq : q = p
  · subst hq
    obtain ⟨left, may, left_sent⟩ := (s.sendOthers q).resolve_sent q q
    rw [State.port_sendOthers, if_pos rfl] at may left_sent
    refine Port.spoke_of_offline may ?_ here offline inHand
    rw [sent, left_sent]
    split
    · exact .inr rfl
    · exact .inl (List.append_nil _)
  · refine Port.spoke_of_send ?_
    rw [others q hq, State.port_resolve_ne _ hq, State.port_sendOthers, if_neg hq]

/-- A frame that arrives after the response to the head of a full buffer: that response has left. -/
theorem State.sent_resolve_of_room (full : 4 ≤ (s.port p).buffer.length)
    (room : (((s.sendOthers p).resolve p).port p).buffer.length < 4) (q : PortId) :
    (((s.sendOthers p).resolve p).port q).sent = (s.port q).send.sent := by
  have own : (s.sendOthers p).port p = s.port p := by rw [State.port_sendOthers, if_pos rfl]
  by_cases hq : q = p
  · subst hq
    cases decided : (s.port q).decided with
    | none =>
      rw [State.resolve_of_none (by rw [own]; exact decided), own] at room
      omega
    | some r =>
      have held := Port.inHand_of_decided decided
      rw [State.resolve_of_decided (by rw [own]; exact held)] at room ⊢
      split at room
      · rename_i left
        rw [if_pos left, State.port_send, if_pos rfl, State.port_choose, own]
      · rw [State.port_choose, own] at room
        omega
  · rw [State.port_resolve_ne _ hq, State.port_sendOthers, if_neg hq]

theorem State.sent_receive_of_room (room : (s.port p).buffer.length < 4) (f : Frame) (q : PortId) :
    ((s.receive p f).port q).sent = (s.port q).sent := by
  rw [State.receive_of_room room, State.port_modifyPort]
  split
  · rename_i hq
    rw [hq, State.port_settle]
  · rw [State.port_settle]

theorem State.spoke_deviceReset {drops : Prop} (reset : s.DeviceReset t) (here : drops) :
    (s.port q).spoke (t.port q) drops := by
  obtain ⟨left, may, port⟩ := reset.ports q
  exact Port.spoke_of_offline may (.inl (by rw [port])) here (by rw [port]) (by rw [port])

theorem start_of_not_hears {c : Instr} (hears : c.hears = false) : c.start s = s.sendAll := by
  cases c with
  | powerOn | resetInputAsserted | linkUp | linkDown | frameArrival => cases hears
  | _ => rfl

/-- R132, R143: what every port says in one command. -/
theorem exec_spoke {c : Instr} (h : exec c s = .next t) (q : PortId) :
    (s.port q).spoke (t.port q) (dropsLink c q) := by
  cases hears : c.hears with
  | false =>
    refine Port.spoke_of_send ?_
    rw [((exec_runs_from h).quiet (by simp [Instr.scope, hears]) q).1, start_of_not_hears hears, State.port_sendAll]
  | true =>
    cases c with
    | linkUp p =>
      refine Port.spoke_of_send ?_
      rw [show t = _ from (Host.Outcome.next.inj h).symm]
      split
      · rw [State.port_modifyPort]
        split
        · rename_i hq
          rw [hq]; exact s.sent_atOnce p
        · exact s.sent_atOnce q
      · exact s.sent_atOnce q
    | powerOn =>
      rw [show t = _ from (Host.Outcome.next.inj h).symm]
      exact State.spoke_deviceReset (s.deviceReset_spec s.deviceReset.resetInput true []) (.inl rfl)
    | resetInputAsserted =>
      rw [exec_resetInputAsserted] at h
      rw [show t = _ from (Host.Outcome.next.inj h).symm]
      split
      · exact Port.spoke_of_send (s.sent_atOnce q)
      · exact State.spoke_deviceReset (s.deviceReset_spec true s.deviceReset.clearing s.deviceReset.mem) (.inr (.inl rfl))
    | linkDown p cause =>
      by_cases offline : (s.port p).state = .offline
      · rw [exec_linkDown_of_offline offline] at h
        cases h
        exact Port.spoke_of_send (s.sent_atOnce q)
      · rw [exec_linkDown_of_up offline] at h
        rw [show t = _ from (Host.Outcome.next.inj h).symm]
        exact State.spoke_dropLink (drops := dropsLink _) offline cause (.inr (.inr (.inl ⟨cause, rfl⟩))) q
    | frameArrival p f =>
      by_cases offline : (s.port p).state = .offline
      · rw [exec_frameArrival_of_offline offline] at h
        cases h
        exact Port.spoke_of_send (s.sent_atOnce q)
      by_cases room : (s.port p).buffer.length < 4
      · rw [exec_frameArrival_of_room offline room] at h
        rw [show t = _ from (Host.Outcome.next.inj h).symm]
        refine Port.spoke_of_send ?_
        rw [State.sent_receive_of_room, State.port_sendAll]
        rw [State.port_sendAll]
        exact (Port.send_buffer_le _).trans_lt room
      have full := Nat.not_lt.mp room
      rw [exec_frameArrival_of_full offline full] at h
      rw [show t = _ from (Host.Outcome.next.inj h).symm]
      by_cases left : (((s.sendOthers p).resolve p).port p).buffer.length < 4
      · refine Port.spoke_of_send ?_
        rw [State.sent_receive_of_room left, State.sent_resolve_of_room full left]
      · rw [State.receive_of_full (Nat.not_lt.mp left)]
        exact State.spoke_dropLink (drops := dropsLink _) offline .linkFault (.inr (.inr (.inr ⟨f, rfl⟩))) q
    | _ => cases hears

theorem hears_command (row : TakeRow) (p : PortId) : (row.command p).hears = false := by
  cases row <;> rfl

theorem start_command (row : TakeRow) (p : PortId) (s : State) : (row.command p).start s = s.sendAll :=
  start_of_not_hears (hears_command row p)

theorem answers_command_iff {row : TakeRow} {p q : PortId} : (row.command p).answers q ↔ q = p := by
  unfold Instr.answers
  rw [takenAt_command]
  have no : row.command p ≠ .lsAccessCompletion := by cases row <;> exact Instr.noConfusion
  simp [no, eq_comm]

/-- Settles O50: a frame that is taken is answered, and what has been decided leaves before anything else happens. -/
theorem everyFrameTakenIsAnsweredOnce : Obligations.EveryFrameTakenIsAnsweredOnce := by
  refine ⟨fun s t p f row taken h => ?taken, fun c s u gone power reset down frame => ?all, fun c s u p gone link => ?others,
    fun c s t p h => exec_spoke h p⟩
  case taken =>
    have ran := exec_runs_from h
    rw [start_command, State.sendAll_of_allSent (State.allSent_of_settle taken.2.2.1)] at ran
    have quiet := ran.quiet (by simp [Instr.scope, hears_command])
    refine ⟨exec_answered taken h, (quiet p).1, (quiet p).2.1, fun q hq => ?_⟩
    obtain ⟨sent, buffer, inHand⟩ := quiet q
    exact ⟨sent, buffer, inHand fun answers => hq (answers_command_iff.mp answers)⟩
  case all =>
    obtain ⟨eq, ports⟩ := gone
    have same : s.sendAll = u := State.gone_send eq ports rfl fun q => ⟨fun _ => s.port_sendAll q, fun no => absurd trivial no⟩
    rw [← same, exec_sendAll power reset down frame]
  case others =>
    obtain ⟨eq, ports⟩ := gone
    have same : s.sendOthers p = u := State.gone_send eq ports rfl fun q =>
      ⟨fun hq => by rw [State.port_sendOthers, if_neg hq], fun hq => by rw [State.port_sendOthers, if_pos (not_not.mp hq)]⟩
    rw [← same, exec_sendOthers link]

end

end Sys2Proof.Machine
end

section
/-! SUPPORT. READ, WRITE and SWAP: which check decides a frame that is taken, what an admitted request allocates, and what a
grant that comes before leaves as it is; and the statements about them. -/

/- The proofs are checked one after another: each that waits for the kernel holds the stack of a thread. -/
set_option Elab.async false

namespace Sys2Proof.Machine

/-! ## The tests of admission, capacity and rights (R9, R34, R61) -/

section

variable {s : State} {p : PortId}

theorem State.admits_iff : s.admits p = true ↔ s.charge p < 2 ∨ s.charge p < 5 ∧ s.sharedCharge ≤ 5 := by
  simp [State.admits]

theorem State.queueRoom_iff : s.queueRoom p = true ↔ s.pwq.length < 16 ∧ s.pwq.countP (fun x => x.source == p) < 8 := by
  rw [State.queueRoom, Bool.and_eq_true]
  exact and_congr decide_eq_true_iff decide_eq_true_iff

theorem Rights.allowsSwap_iff {r : Rights} : r.allowsSwap = true ↔ r = .atomic := by
  cases r <;> simp [Rights.allowsSwap]

end

/-! ## What decides a READ, a SWAP or a WRITE (R29, R60, R84) -/

section

variable {s : State} {p : PortId} {addr count : Nat} {kind : EntryKind} {w : WindowId} {data compareValue swapValue : List Byte}

theorem State.delay_of_not_admits (full : s.admits p = false) : s.delay p kind addr count w = s.answer p (.retry .noSlot) := by
  simp [State.delay, full]

theorem State.delay_of_freeTag {tag : Tag} (room : s.admits p = true) (free : s.freeTag = some tag) :
    s.delay p kind addr count w = (s.allocate tag p kind addr count w).answer p (.retry .pending) := by
  simp only [State.delay, room, free, if_true]

theorem State.takeRead_of_matching {e : Entry} (found : s.matching p .read addr count = some e) :
    s.takeRead p addr count = s.rerequest p e := by
  simp only [State.takeRead, found]

theorem State.takeSwap_of_matching {e : Entry} (found : s.matching p (.swap compareValue swapValue) addr 8 = some e) :
    s.takeSwap p addr compareValue swapValue = s.rerequest p e := by
  simp only [State.takeSwap, found]

theorem State.takeRead_of_no_window (new : s.matching p .read addr count = none) (none : s.lookup addr = none) :
    s.takeRead p addr count = s.refuse p .noWindow := by
  simp only [State.takeRead, new, State.newRead, none]

theorem State.takeRead_of_denied (new : s.matching p .read addr count = none) (found : s.lookup addr = some w)
    (rights : (s.window w).rights[p].allowsRead = false) : s.takeRead p addr count = s.refuse p .denied := by
  simp only [State.takeRead, new, State.newRead, found, rights, Bool.not_false, if_true]

theorem State.takeRead_of_immediate (new : s.matching p .read addr count = none) (found : s.lookup addr = some w)
    (rights : (s.window w).rights[p].allowsRead = true) (ls : (s.window w).resource = .ls) (empty : s.pwq = []) :
    s.takeRead p addr count = s.startImmediate p { offset := (s.window w).translate addr, count := count } := by
  simp only [State.takeRead, new, State.newRead, found, rights, ls, empty, Bool.not_true, Bool.false_eq_true, if_false]
  rfl

theorem State.takeRead_of_delayed (new : s.matching p .read addr count = none) (found : s.lookup addr = some w)
    (rights : (s.window w).rights[p].allowsRead = true) (delayed : ¬((s.window w).resource = .ls ∧ s.pwq = [])) :
    s.takeRead p addr count = s.delay p .read addr count w := by
  have no : ¬((s.window w).resource == .ls && s.pwq.isEmpty) = true := by simpa using delayed
  simp only [State.takeRead, new, State.newRead, found, rights, Bool.not_true, Bool.false_eq_true, if_false, if_neg no]

theorem State.takeSwap_of_no_window (new : s.matching p (.swap compareValue swapValue) addr 8 = none)
    (none : s.lookup addr = none) : s.takeSwap p addr compareValue swapValue = s.refuse p .noWindow := by
  simp only [State.takeSwap, new, State.newSwap, none]

theorem State.takeSwap_of_denied (new : s.matching p (.swap compareValue swapValue) addr 8 = none)
    (found : s.lookup addr = some w) (rights : (s.window w).rights[p] ≠ .atomic) :
    s.takeSwap p addr compareValue swapValue = s.refuse p .denied := by
  have denied : (s.window w).rights[p].allowsSwap = false := Bool.eq_false_iff.mpr (mt Rights.allowsSwap_iff.mp rights)
  simp only [State.takeSwap, new, State.newSwap, found, denied, Bool.not_false, if_true]

theorem State.takeSwap_of_atomic (new : s.matching p (.swap compareValue swapValue) addr 8 = none)
    (found : s.lookup addr = some w) (rights : (s.window w).rights[p] = .atomic) :
    s.takeSwap p addr compareValue swapValue =
      if (s.window w).resource = .xb then s.refuse p .notSupported
      else s.delay p (.swap compareValue swapValue) addr 8 w := by
  have allowed : (s.window w).rights[p].allowsSwap = true := Rights.allowsSwap_iff.mpr rights
  simp only [State.takeSwap, new, State.newSwap, found, allowed, Bool.not_true, Bool.false_eq_true, if_false, beq_iff_eq]

theorem State.takeWrite_of_no_window (none : s.lookup addr = none) : s.takeWrite p addr data = s.refuse p .noWindow := by
  simp only [State.takeWrite, none]

theorem State.takeWrite_of_denied (found : s.lookup addr = some w) (rights : (s.window w).rights[p].allowsWrite = false) :
    s.takeWrite p addr data = s.refuse p .denied := by
  simp only [State.takeWrite, found, rights, Bool.not_false, if_true]

theorem State.takeWrite_of_full (found : s.lookup addr = some w) (rights : (s.window w).rights[p].allowsWrite = true)
    (full : s.queueRoom p = false) : s.takeWrite p addr data = s.answer p (.retry .queueFull) := by
  simp only [State.takeWrite, found, rights, full, Bool.not_true, Bool.false_eq_true, if_false, Bool.not_false, if_true]

theorem State.takeWrite_of_room (found : s.lookup addr = some w) (rights : (s.window w).rights[p].allowsWrite = true)
    (room : s.queueRoom p = true) :
    s.takeWrite p addr data = (s.accept p addr data w).answer p (.done (some (s.lastSequence + 1))) := by
  simp only [State.takeWrite, found, rights, room, Bool.not_true, Bool.false_eq_true, if_false]

end

/-! ## The commands on the frame they take (R129, R133) -/

section

variable {s : State} {p : PortId} {f : Frame}

/-- A frame of a request is refused before its rule, where it is not well-formed or the port is not ONLINE. -/
theorem exec_request_of_malformed {row : TakeRow} (request : row ∈ [TakeRow.read, .write, .swap]) (taken : s.takes p row f)
    (malformed : f.wellFormed = false) : exec (row.command p) s = .next (s.answer p (.refused .malformed)) := by
  simp only [List.mem_cons, List.not_mem_nil, or_false] at request
  have first : ∀ {a b : State}, (if !f.wellFormed then a else b) = a := fun {a b} => by rw [malformed]; rfl
  obtain rfl | rfl | rfl := request
  · exact congrArg Host.Outcome.next ((State.take_of_takes taken _ _).trans first)
  · exact congrArg Host.Outcome.next ((State.take_of_takes taken _ _).trans first)
  · exact congrArg Host.Outcome.next ((State.take_of_takes taken _ _).trans first)

theorem exec_request_of_not_online {row : TakeRow} (request : row ∈ [TakeRow.read, .write, .swap]) (taken : s.takes p row f)
    (formed : f.wellFormed = true) (absent : s.online p = false) :
    exec (row.command p) s = .next (s.answer p (.refused .notJoined)) := by
  simp only [List.mem_cons, List.not_mem_nil, or_false] at request
  have second : ∀ {a b c : State}, (if !f.wellFormed then a else if !s.online p then b else c) = b :=
    fun {a b c} => by rw [formed, absent]; rfl
  obtain rfl | rfl | rfl := request
  · exact congrArg Host.Outcome.next ((State.take_of_takes taken _ _).trans second)
  · exact congrArg Host.Outcome.next ((State.take_of_takes taken _ _).trans second)
  · exact congrArg Host.Outcome.next ((State.take_of_takes taken _ _).trans second)

/-- A well-formed READ of an ONLINE port, where grants may be due. -/
theorem exec_read_of_settle (h : s.settle.takesRequest p .read f) :
    exec (.read p) s = .next ((s.grantsBefore (s.lostAtRefusal p .read f.addr f.count)).takeRead p f.addr f.count) := by
  obtain ⟨taken, formed, online⟩ := h
  rw [State.online_settle] at online
  refine congrArg Host.Outcome.next ((State.take_of_settle_takes taken _ _).trans ?_)
  simp [formed, online]

theorem exec_write_of_settle (h : s.settle.takesRequest p .write f) :
    exec (.write p) s =
      .next ((s.grantsBefore (s.lostAtWrite p f.addr (f.payload .write))).takeWrite p f.addr (f.payload .write)) := by
  obtain ⟨taken, formed, online⟩ := h
  rw [State.online_settle] at online
  refine congrArg Host.Outcome.next ((State.take_of_settle_takes taken _ _).trans ?_)
  simp [formed, online]

theorem exec_swap_of_settle (h : s.settle.takesRequest p .swap f) :
    exec (.swap p) s =
      .next ((s.grantsBefore (s.lostAtRefusal p (.swap f.compareValue f.swapValue) f.addr 8)).takeSwap p f.addr
        f.compareValue f.swapValue) := by
  obtain ⟨taken, formed, online⟩ := h
  rw [State.online_settle] at online
  refine congrArg Host.Outcome.next ((State.take_of_settle_takes taken _ _).trans ?_)
  simp [formed, online]

theorem State.takesRequest_settle {row : TakeRow} (h : s.takesRequest p row f) : s.settle.takesRequest p row f := by
  rwa [State.settle_of_granted h.1.2.2.2]

theorem exec_read (h : s.takesRequest p .read f) : exec (.read p) s = .next (s.takeRead p f.addr f.count) := by
  rw [exec_read_of_settle (State.takesRequest_settle h), State.grantsBefore_of_granted h.1.2.2.2]

theorem exec_write (h : s.takesRequest p .write f) : exec (.write p) s = .next (s.takeWrite p f.addr (f.payload .write)) := by
  rw [exec_write_of_settle (State.takesRequest_settle h), State.grantsBefore_of_granted h.1.2.2.2]

theorem exec_swap (h : s.takesRequest p .swap f) :
    exec (.swap p) s = .next (s.takeSwap p f.addr f.compareValue f.swapValue) := by
  rw [exec_swap_of_settle (State.takesRequest_settle h), State.grantsBefore_of_granted h.1.2.2.2]

end

/-- Settles O16: each check in the order of the rules, and what it answers. -/
theorem refusedTraffic : Obligations.RefusedTraffic := by
  refine ⟨fun s p f row request taken => ⟨exec_request_of_malformed request taken, exec_request_of_not_online request taken⟩,
    fun s p f taken new => ⟨fun none => ?_, fun w found => ⟨fun rights => ?_, fun rights delayed full => ?_⟩⟩,
    fun s p f taken => ⟨fun none => ?_, fun w found => ⟨fun rights => ?_, fun rights full => ?_⟩⟩,
    fun s p f taken new => ⟨fun none => ?_, fun w found => ⟨fun rights => ?_, fun rights xb => ?_, fun rights ls full => ?_⟩⟩⟩
  · rw [exec_read taken, State.takeRead_of_no_window new none, State.refuse]
  · rw [exec_read taken, State.takeRead_of_denied new found rights, State.refuse]
  · rw [exec_read taken, State.takeRead_of_delayed new found rights delayed,
      State.delay_of_not_admits (Bool.eq_false_iff.mpr (mt State.admits_iff.mp full))]
  · rw [exec_write taken, State.takeWrite_of_no_window none, State.refuse]
  · rw [exec_write taken, State.takeWrite_of_denied found rights, State.refuse]
  · rw [exec_write taken, State.takeWrite_of_full found rights (Bool.eq_false_iff.mpr (mt State.queueRoom_iff.mp full))]
  · rw [exec_swap taken, State.takeSwap_of_no_window new none, State.refuse]
  · rw [exec_swap taken, State.takeSwap_of_denied new found rights, State.refuse]
  · rw [exec_swap taken, State.takeSwap_of_atomic new found rights, if_pos xb, State.refuse]
  · rw [exec_swap taken, State.takeSwap_of_atomic new found rights, if_neg (by rw [ls]; decide),
      State.delay_of_not_admits (Bool.eq_false_iff.mpr (mt State.admits_iff.mp full))]

/-- Settles O17: the read in hand holds the translated offset and the count. -/
theorem immediateRead : Obligations.ImmediateRead := by
  intro s p f w taken new found rights ls empty
  rw [exec_read taken, State.takeRead_of_immediate new found rights ls empty]
  rfl

/-! ## The lowest FREE tag (R34, R35) -/

section

variable {s : State} {p : PortId}

theorem length_eq_sum_charges (d : List Entry) :
    d.length = d.countP (fun e => e.owner == 0) + d.countP (fun e => e.owner == 1) + d.countP (fun e => e.owner == 2) +
      d.countP (fun e => e.owner == 3) := by
  induction d with
  | nil => rfl
  | cons e rest ih =>
    have one : ∀ q : PortId, 1 = (if (q == 0) = true then 1 else 0) + (if (q == 1) = true then 1 else 0) +
      (if (q == 2) = true then 1 else 0) + (if (q == 3) = true then 1 else 0) := by decide
    simp only [List.length_cons, List.countP_cons]
    have := one e.owner
    omega

/-- R34: where a request is admitted, fewer than 14 entries are not FREE. -/
theorem State.entries_of_admits (ok : s.chargesOk) (room : s.admits p = true) : s.drt.length < 14 := by
  obtain ⟨-, shared⟩ := ok
  have total : s.drt.length = s.charge 0 + s.charge 1 + s.charge 2 + s.charge 3 := length_eq_sum_charges s.drt
  rw [State.admits_iff] at room
  unfold State.sharedCharge at shared room
  have ports : ∀ q : PortId, q = 0 ∨ q = 1 ∨ q = 2 ∨ q = 3 := by decide
  rcases ports p with rfl | rfl | rfl | rfl <;> omega

theorem tagIds_sorted : tagIds.Pairwise (· < ·) := by decide

theorem State.freeTag_of_entries (few : s.drt.length < 14) : ∃ tag, s.freeTag = some tag := by
  cases found : s.freeTag with
  | some tag => exact ⟨tag, rfl⟩
  | none =>
    have used : tagIds ⊆ s.drt.map Entry.tag := fun t ht => by
      have no := List.find?_eq_none.mp found t ht
      simpa using no
    have le := (List.Nodup.subperm (tagIds_sorted.imp ne_of_lt) used).length_le
    rw [List.length_map] at le
    exact absurd le (Nat.not_le.mpr few)

/-- R35: every tag below the one that is given belongs to an entry. -/
theorem State.freeTag_lowest {tag : Tag} (found : s.freeTag = some tag) : ∀ u < tag, ∃ e ∈ s.drt, e.tag = u := by
  obtain ⟨-, below, above, split, earlier⟩ := List.find?_eq_some_iff_append.mp found
  intro u hu
  have sorted := tagIds_sorted
  have mem := mem_tagIds u
  rw [split] at sorted mem
  obtain here | there := List.mem_append.mp mem
  · have no := earlier u here
    simpa using no
  · have le : tag ≤ u := by
      obtain rfl | later := List.mem_cons.mp there
      · exact le_rfl
      · exact le_of_lt (List.rel_of_pairwise_cons (List.pairwise_append.mp sorted).2.1 later)
    exact absurd hu (not_lt.mpr le)

end

/-- Settles O18: what is admitted finds a FREE entry, since fewer than 14 are not; the lowest is given. -/
theorem delayedRequest : Obligations.DelayedRequest := by
  unfold Obligations.DelayedRequest
  refine ⟨fun s p f w ok taken new found rights delayed room => ?_, fun s p f w ok taken new found rights ls room => ?_⟩
  · have admitted := State.admits_iff.mpr room
    obtain ⟨tag, free⟩ := State.freeTag_of_entries (State.entries_of_admits ok admitted)
    refine ⟨tag, State.freeTag_fresh free, State.freeTag_lowest free, ?_⟩
    rw [exec_read taken, State.takeRead_of_delayed new found rights delayed, State.delay_of_freeTag admitted free]
    rfl
  · have admitted := State.admits_iff.mpr room
    obtain ⟨tag, free⟩ := State.freeTag_of_entries (State.entries_of_admits ok admitted)
    refine ⟨tag, State.freeTag_fresh free, State.freeTag_lowest free, ?_⟩
    rw [exec_swap taken, State.takeSwap_of_atomic new found rights, if_neg (by rw [ls]; decide),
      State.delay_of_freeTag admitted free]
    rfl

/-! ## What the grants before an event leave of the tables (R37, R70) -/

section

variable {s u : State} {p : PortId} {kind : EntryKind} {addr count : Nat}

/-- What both arbiters keep, the grants before an event keep: they change the tables by putting the head of the queue in flight
and by setting an eligible entry to FETCHING. -/
theorem State.grantsBefore_keeps {P : List Entry → List PostedWrite → Prop}
    (drain : ∀ v : State, P v.drt v.pwq → P v.drt v.startDrain.pwq)
    (fetch : ∀ (v : State) (r : Resource), P v.drt v.pwq → P (v.startFetch r).drt v.pwq)
    (start : P s.drt s.pwq) (lost : Grantee → Bool) (first : Nat → Bool) :
    P (s.grantsBefore lost first).drt (s.grantsBefore lost first).pwq := by
  have store : ∀ v : State, P v.drt v.pwq → P v.grantStore.drt v.grantStore.pwq := fun v h => by
    obtain same | ⟨pos, -, -, -, -, made⟩ := v.grantStore_cases
    · rw [same]; exact h
    · rw [made]
      cases pos with
      | port q => exact h
      | drain => rw [State.grantPosition, State.startDrain_drt]; exact drain { v with store := _, lastPosition := _ } h
      | fetch => rw [State.grantPosition, State.startFetch_pwq]; exact fetch { v with store := _, lastPosition := _ } .ls h
  have bus : ∀ v : State, P v.drt v.pwq → P v.grantBus.drt v.grantBus.pwq := fun v h => by
    obtain same | ⟨stream, -, -, made⟩ := v.grantBus_cases
    · rw [same]; exact h
    · rw [made]
      cases stream with
      | drain =>
        unfold State.grantStream
        simp only []
        split
        · rw [State.startTransaction_drt, State.startTransaction_pwq, State.startDrain_drt]; exact drain v h
        · exact h
      | fetch =>
        unfold State.grantStream
        simp only []
        split
        · rw [State.startTransaction_drt, State.startTransaction_pwq, State.startFetch_pwq]; exact fetch v .xb h
        · exact h
  have before : ∀ (v : State) (l : Bool) (grant : State → State), (∀ v, P v.drt v.pwq → P (grant v).drt (grant v).pwq) →
      P v.drt v.pwq → P (v.grantBefore l first grant).drt (v.grantBefore l first grant).pwq := fun v l grant keeps h => by
    obtain made | made | made := State.grantBefore_cases v l first grant
    · rw [made]; exact keeps v h
    · rw [made]; exact keeps v.choose h
    · rw [made]; exact h
  exact before _ _ _ bus (before _ _ _ store start)

theorem State.sources_grantsBefore (s : State) (lost : Grantee → Bool) (first : Nat → Bool) :
    (s.grantsBefore lost first).pwq.map PostedWrite.source = s.pwq.map PostedWrite.source := by
  refine State.grantsBefore_keeps (P := fun _ q => q.map PostedWrite.source = s.pwq.map PostedWrite.source)
    (fun v h => ?_) (fun _ _ h => h) rfl lost first
  rw [← h, State.startDrain]
  split
  · rfl
  · rename_i queued; rw [queued]; rfl

theorem State.length_grantsBefore (s : State) (lost : Grantee → Bool) (first : Nat → Bool) :
    (s.grantsBefore lost first).pwq.length = s.pwq.length := by
  simpa using congrArg List.length (s.sources_grantsBefore lost first)

theorem State.queueRoom_grantsBefore (s : State) (lost : Grantee → Bool) (first : Nat → Bool) (p : PortId) :
    (s.grantsBefore lost first).queueRoom p = s.queueRoom p := by
  have count : ∀ q : List PostedWrite, q.countP (fun x => x.source == p) = (q.map PostedWrite.source).countP (· == p) :=
    fun q => by rw [List.countP_map]; rfl
  rw [State.queueRoom, State.queueRoom, State.queueCount, State.queueCount, count, count, s.sources_grantsBefore lost first,
    s.length_grantsBefore lost first]

theorem State.lookup_grantsBefore (s : State) (lost : Grantee → Bool) (first : Nat → Bool) (addr : Nat) :
    (s.grantsBefore lost first).lookup addr = s.lookup addr := by
  simp only [State.lookup, State.window_grantsBefore]

/-- An entry that changes between states in which a request may match it is matched as before. -/
theorem State.matching_setPhase {x : Entry} {phase : Phase} (distinct : s.tagsDistinct) (hx : x ∈ s.drt) (live : x.live = true)
    (lives : phase ≠ .orphaned) :
    (s.setPhase x.tag phase).matching p kind addr count =
      (s.matching p kind addr count).map (fun e => if e.tag = x.tag then { e with phase := phase } else e) := by
  rw [State.matching, State.setPhase, List.find?_map, State.matching]
  refine congrArg _ (List.find?_congr fun e he => ?_)
  simp only [Function.comp_apply]
  split
  · rename_i tag
    rw [State.eq_of_tag distinct he hx tag]
    have live' : ({ x with phase := phase } : Entry).live = true := by simpa [Entry.live] using lives
    simp only [Entry.matchesKey, live, live']
  · rfl

/-- R31, R53: a request matches the entry it matched, in the state in which the grants leave it. -/
theorem State.matching_grantsBefore {matched : Entry} (distinct : s.tagsDistinct)
    (found : s.matching p kind addr count = some matched) (lost : Grantee → Bool) (first : Nat → Bool) :
    ∃ e : Entry, (s.grantsBefore lost first).matching p kind addr count = some e ∧ e = { matched with phase := e.phase } := by
  suffices h : (s.grantsBefore lost first).tagsDistinct ∧ ∃ e : Entry,
      (s.grantsBefore lost first).matching p kind addr count = some e ∧ e = { matched with phase := e.phase } from h.2
  refine State.grantsBefore_keeps (P := fun d _ => d.Pairwise (fun a b : Entry => a.tag ≠ b.tag) ∧ ∃ e : Entry,
    d.find? (fun e => e.matchesKey p kind addr count) = some e ∧ e = { matched with phase := e.phase })
    (fun _ h => h) (fun v r ⟨vdistinct, e, vfound, same⟩ => ?_) ⟨distinct, matched, found, rfl⟩ lost first
  unfold State.startFetch
  split
  · rename_i x eligible
    have hx := List.mem_of_find?_eq_some eligible
    have live : x.live = true := by
      have waits := List.find?_some eligible
      simp only [Entry.eligible, Bool.and_eq_true, beq_iff_eq] at waits
      simp [Entry.live, waits.2]
    refine ⟨?_, ?_⟩
    · have tags := v.tags_setPhase x.tag (.fetching none)
      exact (State.tagsDistinct_iff _).mpr (by rw [tags]; exact (State.tagsDistinct_iff v).mp vdistinct)
    · have made := State.matching_setPhase (p := p) (kind := kind) (addr := addr) (count := count)
        (phase := .fetching none) vdistinct hx live (by simp)
      rw [show v.matching p kind addr count = some e from vfound] at made
      rw [Option.map_some] at made
      by_cases tag : e.tag = x.tag
      · rw [if_pos tag] at made
        exact ⟨_, made, by rw [same]⟩
      · rw [if_neg tag] at made
        exact ⟨e, made, same⟩
  · exact ⟨vdistinct, e, vfound, same⟩

end

/-! ## Accepted writes and re-requests (R31, R32, R42, R62) -/

section

variable {s : State} {p : PortId} {kind : EntryKind} {addr count : Nat} {matched e : Entry}

/-- R53, R64: the entries that an accepted write takes away are those that the overlap check acts on. -/
theorem State.lostAtWrite_entry {w : WindowId} {data : List Byte} (found : s.lookup addr = some w)
    (rights : (s.window w).rights[p].allowsWrite = true) (room : s.queueRoom p = true) (e : Entry) :
    s.lostAtWrite p addr data (.entry e) =
      e.actedOn (s.window w).resource ((s.window w).translate addr) data.length := by
  simp only [State.lostAtWrite, found, rights, room, Bool.true_and]

/-- R31, R53: the entry that a refused re-request takes away is the one it matches. -/
theorem State.lostAtRefusal_of_matching (found : s.matching p kind addr count = some matched) :
    s.lostAtRefusal p kind addr count =
      fun g => g == .entry matched && !(s.window matched.window).rights[p].allows matched.kind := by
  funext g
  cases g with
  | entry e =>
    rw [State.lostAtRefusal, found]
    by_cases same : e = matched
    · rw [same]; simp only [beq_self_eq_true]
    · have other : (some matched == some e) = false := by simpa using fun h => same h.symm
      have other' : (Grantee.entry e == Grantee.entry matched) = false := by simpa using same
      rw [other, other', Bool.false_and, Bool.false_and]
  | read q => rfl
  | write => rfl

/-- A re-request of a matched entry, by its command: the rule on the entry that the grants leave. -/
theorem exec_rerequest {c : Instr} (requests : s.reRequests p c matched)
    (found : (s.grantsBefore (fun g => g == .entry matched && !(s.window matched.window).rights[p].allows matched.kind)).matching
      p matched.kind matched.addr matched.count = some e) :
    exec c s = .next ((s.grantsBefore
      (fun g => g == .entry matched && !(s.window matched.window).rights[p].allows matched.kind)).rerequest p e) := by
  obtain ⟨f, ⟨rfl, taken, matching⟩ | ⟨rfl, taken, matching⟩⟩ := requests
  · obtain ⟨-, -, kind, addr, count⟩ := Entry.matchesKey_iff.mp (State.matchesKey_of_matching matching)
    rw [kind, addr, count] at found
    rw [exec_read_of_settle taken, State.lostAtRefusal_of_matching matching, State.takeRead_of_matching]
    rw [kind]
    exact found
  · obtain ⟨-, -, kind, addr, count⟩ := Entry.matchesKey_iff.mp (State.matchesKey_of_matching matching)
    rw [kind, addr, count] at found
    rw [exec_swap_of_settle taken, State.lostAtRefusal_of_matching matching, State.takeSwap_of_matching]
    rw [kind]
    exact found

theorem State.rerequest_of_ready {result : FetchResult} {left : Nat} (rights : (s.window e.window).rights[p].allows e.kind = true)
    (phase : e.phase = .ready result left) : s.rerequest p e = (s.freeEntry e).answer p result.response := by
  rw [State.rerequest, if_pos rights, phase]

theorem State.rerequest_of_pending (rights : (s.window e.window).rights[p].allows e.kind = true)
    (phase : ∀ result left, e.phase ≠ .ready result left) : s.rerequest p e = s.answer p (.retry .pending) := by
  rw [State.rerequest, if_pos rights]
  split
  · rename_i ready; exact absurd ready (phase _ _)
  · rfl

theorem State.rerequest_of_denied (rights : (s.window e.window).rights[p].allows e.kind ≠ true) :
    s.rerequest p e = (s.refuseEntry e).answer p (.refused .denied) := by
  rw [State.rerequest, if_neg rights, State.refuse]

end

/-- Settles O21: what an admitted write adds, in the state that the grants before it leave. -/
theorem writeAccepted : Obligations.WriteAccepted := by
  unfold Obligations.WriteAccepted
  intro s p f w taken found rights few own win dest data u
  have room := State.queueRoom_iff.mpr ⟨few, own⟩
  have before : s.grantsBefore (s.lostAtWrite p f.addr data) = u := congrArg (fun lost => s.grantsBefore lost) <| funext fun g =>
    match g with
    | .entry e => State.lostAtWrite_entry found rights room e
    | .read _ => rfl
    | .write => rfl
  have sameWindow : u.window w = win := by rw [← before]; exact State.window_grantsBefore ..
  have sameLookup : u.lookup f.addr = some w := by rw [← before, State.lookup_grantsBefore]; exact found
  have sameRoom : u.queueRoom p = true := by rw [← before, State.queueRoom_grantsBefore]; exact room
  have sequence : u.lastSequence = s.lastSequence := by rw [← before, State.grantsBefore_lastSequence]
  have length : u.pwq.length = s.pwq.length := by rw [← before, State.length_grantsBefore]
  rw [exec_write_of_settle taken, before, State.takeWrite_of_room sameLookup (by rw [sameWindow]; exact rights) sameRoom,
    State.accept, sameWindow, sequence, length]
  rfl

/-- Settles O19: the rights on the entry's window and the entry's state decide a re-request, in the state that the grants
before it leave. -/
theorem reRequest : Obligations.ReRequest := by
  unfold Obligations.ReRequest
  intro s p c matched distinct requests allowed u
  obtain ⟨e, found, same⟩ : ∃ e : Entry, u.matching p matched.kind matched.addr matched.count = some e ∧
      e = { matched with phase := e.phase } := by
    obtain ⟨f, ⟨-, -, matching⟩ | ⟨-, -, matching⟩⟩ := requests
    · obtain ⟨-, -, kind, addr, count⟩ := Entry.matchesKey_iff.mp (State.matchesKey_of_matching matching)
      exact State.matching_grantsBefore distinct (by rw [kind, addr, count]; exact matching) _ _
    · obtain ⟨-, -, kind, addr, count⟩ := Entry.matchesKey_iff.mp (State.matchesKey_of_matching matching)
      exact State.matching_grantsBefore distinct (by rw [kind, addr, count]; exact matching) _ _
  refine ⟨e, found, same, ?_⟩
  obtain ⟨live, owner, -⟩ := Entry.matchesKey_iff.mp (State.matchesKey_of_matching found)
  have made : exec c s = .next (u.rerequest p e) := exec_rerequest requests found
  have rights : (u.window e.window).rights[p].allows e.kind = allowed := by
    rw [same]
    exact congrArg (fun win : Window => win.rights[p].allows matched.kind) (State.window_grantsBefore ..)
  rw [made]
  by_cases yes : allowed = true
  · rw [if_pos yes]
    have holds := rights.trans yes
    cases phase : e.phase with
    | ready result left =>
      rw [State.rerequest_of_ready holds phase]
      cases result <;> rfl
    | waiting ahead => exact congrArg _ (State.rerequest_of_pending holds (by simp [phase]))
    | fetching again => exact congrArg _ (State.rerequest_of_pending holds (by simp [phase]))
    | orphaned => exact absurd phase live
  · rw [if_neg yes, State.rerequest_of_denied (by rw [rights]; exact yes)]
    cases phase : e.phase with
    | ready result left =>
      simp only [State.refuseEntry, phase]
      exact ⟨rfl, rfl⟩
    | waiting ahead =>
      simp only [State.refuseEntry, phase]
      exact ⟨rfl, rfl⟩
    | fetching again =>
      simp only [State.refuseEntry, phase, owner]
      rfl
    | orphaned => exact absurd phase live

end Sys2Proof.Machine
end

section
/-! SUPPORT. Control decode: the checks of every control write, and the requests that have no row of their own; and the
statement about the checks. -/

/- The proofs are checked one after another: each that waits for the kernel holds the stack of a thread. -/
set_option Elab.async false

namespace Sys2Proof.Machine

/-! ## The checks that refuse a control write (R133, R152, R179) -/

section

variable {s : State} {p : PortId} {r : Reg} {f : Frame} {row : TakeRow} {value : List Byte}

theorem State.controlWrite_of_not_joined (absent : s.online p = false) (other : r ≠ .pjoin) (rule : Verdict) :
    s.controlWrite p r value rule = s.refuse p .notJoined :=
  State.controlWrite_of_refused (by simp [State.writeRefusal, absent, other]) rule

theorem State.controlWrite_of_not_holder (present : s.online p = true ∨ r = .pjoin) (required : r.claimRequired = true)
    (other : s.holds p = false) (rule : Verdict) : s.controlWrite p r value rule = s.refuse p .notHolder :=
  State.controlWrite_of_refused (by
    have joined : (!s.online p && r != .pjoin) = false := by obtain h | h := present <;> simp [h]
    simp [State.writeRefusal, joined, required, other]) rule

theorem State.controlWrite_of_wrong_access (present : s.online p = true ∨ r = .pjoin)
    (held : r.claimRequired = true → s.holds p = true) (wrong : r.writable = false ∨ value.length ≠ r.width) (rule : Verdict) :
    s.controlWrite p r value rule = s.refuse p .wrongAccess :=
  State.controlWrite_of_refused (by
    have joined : (!s.online p && r != .pjoin) = false := by obtain h | h := present <;> simp [h]
    have holder : (r.claimRequired && !s.holds p) = false := by
      cases required : r.claimRequired with
      | false => rfl
      | true => simp [held required]
    simp only [State.writeRefusal, joined, holder, Bool.false_eq_true, if_false]
    obtain no | width := wrong
    · simp [no]
    · split
      · rfl
      · simp [width]) rule

/-- R133, R179: the checks of R133, R152 and R179 in their order, where one refuses or the rule is a refusal. -/
theorem State.controlWrite_of_bad_value :
    s.controlWrite p r value (.refused .badValue) = s.refuse p (
      if s.online p = false ∧ r ≠ .pjoin then .notJoined
      else if r.claimRequired = true ∧ s.holds p = false then .notHolder
      else if r.writable = false ∨ value.length ≠ r.width then .wrongAccess
      else .badValue) := by
  by_cases joined : s.online p = false ∧ r ≠ .pjoin
  · rw [if_pos joined, State.controlWrite_of_not_joined joined.1 joined.2]
  have present : s.online p = true ∨ r = .pjoin := by
    cases online : s.online p with
    | true => exact .inl rfl
    | false => exact .inr (not_not.mp fun other => joined ⟨online, other⟩)
  rw [if_neg joined]
  by_cases holder : r.claimRequired = true ∧ s.holds p = false
  · rw [if_pos holder, State.controlWrite_of_not_holder present holder.1 holder.2]
  have held : r.claimRequired = true → s.holds p = true := fun required =>
    Bool.of_not_eq_false fun other => holder ⟨required, other⟩
  rw [if_neg holder]
  by_cases wrong : r.writable = false ∨ value.length ≠ r.width
  · rw [if_pos wrong, State.controlWrite_of_wrong_access present held wrong]
  · obtain ⟨writable, width⟩ := not_or.mp wrong
    rw [if_neg wrong, State.controlWrite_of_accepted (State.writeRefusal_eq_none_iff.mpr
      ⟨present, held, Bool.of_not_eq_false writable, not_not.mp width⟩)]
    rfl

/-- A control write that has a row of its own is decided by the checks of its register before its rule. -/
theorem exec_ofRegister (taken : s.takes p row f) (register : row.register = some r) :
    ∃ rule, exec (row.command p) s = .next (s.controlWrite p r (f.payload .ctlWrite) rule) := by
  cases row <;> cases register <;> exact ⟨_, congrArg Host.Outcome.next (State.take_of_takes taken _ _)⟩

theorem TakeRow.width_register (register : row.register = some r) : r.width = 8 := by
  cases row <;> cases register <;> rfl

end

/-- Settles O23: the checks of the register that a row's writes go to. -/
theorem controlWriteChecks : Obligations.ControlWriteChecks := by
  intro s p f row r taken register
  obtain ⟨rule, made⟩ := exec_ofRegister taken register
  refine ⟨fun absent other => ?_, fun present required other => ?_, fun present held length => ?_⟩
  · rw [made, State.controlWrite_of_not_joined absent other, State.refuse]
  · rw [made, State.controlWrite_of_not_holder present required other, State.refuse]
  · have wrong : (f.payload .ctlWrite).length ≠ r.width := by rw [TakeRow.width_register register]; exact length
    rw [made, State.controlWrite_of_wrong_access present held (.inr wrong), State.refuse]

end Sys2Proof.Machine
end

section
/-! SUPPORT. Bytes: what a number in so many bytes reads as, at its place in a list of fields; frames with their CRC; and the
statement about request frames. -/

/- The proofs are checked one after another: each that waits for the kernel holds the stack of a thread. -/
set_option Elab.async false

namespace Sys2Proof

/-! ## A number as bytes, least significant first (R173) -/

section

@[simp] theorem length_leBytes (k v : Nat) : (leBytes k v).length = k := by
  induction k generalizing v with
  | zero => rfl
  | succ k ih => rw [leBytes, List.length_cons, ih]

/-- Some bytes of a number, from its byte `i` on. -/
theorem leNat_leBytes (k v i n : Nat) (h : i + n ≤ k) : leNat (((leBytes k v).drop i).take n) = v / 256 ^ i % 256 ^ n := by
  induction k generalizing v i n with
  | zero =>
    obtain ⟨rfl, rfl⟩ : i = 0 ∧ n = 0 := by omega
    simp [leBytes, leNat, Nat.mod_one]
  | succ k ih =>
    cases i with
    | zero =>
      cases n with
      | zero => simp [leNat, Nat.mod_one]
      | succ n =>
        have rest := ih (v / 256) 0 n (by omega)
        rw [List.drop_zero, pow_zero, Nat.div_one] at rest
        rw [leBytes, List.drop_zero, List.take_succ_cons, leNat, rest, pow_zero, Nat.div_one, pow_succ', Nat.mod_mul]
        simp
    | succ i =>
      rw [leBytes, List.drop_succ_cons, ih _ _ _ (by omega), Nat.div_div_eq_div_mul, pow_succ']

end

/-! ## A field at its place (R175, R177, R181) -/

section

variable {l rest : List Byte} {k v i n : Nat}

/-- A list of fields: bytes before it are skipped. -/
theorem bytesAt_append_of_le (h : l.length ≤ i) : bytesAt (l ++ rest) i n = bytesAt rest (i - l.length) n := by
  rw [bytesAt, List.drop_append, List.drop_eq_nil_of_le h, List.nil_append, bytesAt]

theorem bytesAt_append_of_lt (h : i + n ≤ l.length) : bytesAt (l ++ rest) i n = bytesAt l i n := by
  rw [bytesAt, bytesAt, List.drop_append_of_le_length (by omega), List.take_append_of_le_length (by simp; omega)]

@[simp] theorem bytesAt_leBytes_skip (h : k ≤ i) : bytesAt (leBytes k v ++ rest) i n = bytesAt rest (i - k) n := by
  simpa using bytesAt_append_of_le (l := leBytes k v) (rest := rest) (i := i) (n := n) (by simpa using h)

@[simp] theorem bytesAt_leBytes (h : i + n ≤ k) : bytesAt (leBytes k v) i n = v / 256 ^ i % 256 ^ n :=
  leNat_leBytes k v i n h

@[simp] theorem bytesAt_leBytes_append (h : i + n ≤ k) : bytesAt (leBytes k v ++ rest) i n = v / 256 ^ i % 256 ^ n := by
  rw [bytesAt_append_of_lt (by simpa using h), bytesAt_leBytes h]

theorem bytesAt_zero_length (l : List Byte) (i : Nat) : bytesAt l i 0 = 0 := by
  rw [bytesAt, List.take_zero, leNat]

theorem bytesAt_succ (h : i < l.length) : bytesAt l i (n + 1) = (l[i]?.getD 0).toNat + 256 * bytesAt l (i + 1) n := by
  rw [bytesAt, List.drop_eq_getElem_cons h, List.take_succ_cons, leNat, List.getElem?_eq_getElem h, Option.getD_some, bytesAt]

end

/-! ## A frame and its CRC (R174) -/

section

variable (body : List Byte)

theorem Frame.length_seal : (Frame.seal body).length = body.length + 2 := by
  simp [Frame.seal]

theorem Frame.body_seal : (Frame.seal body).body = body := by
  rw [Frame.body, Frame.length_seal, Nat.add_sub_cancel, Frame.seal, List.take_left]

theorem Frame.intact_seal {body : List Byte} (some : body ≠ []) : (Frame.seal body).intact = true := by
  have length := Frame.length_seal body
  have crc : leNat ((Frame.seal body).drop ((Frame.seal body).length - 2)) = (crc16 body).toNat := by
    have whole := leNat_leBytes 2 (crc16 body).toNat 0 2 le_rfl
    rw [List.drop_zero, List.take_of_length_le (by simp), pow_zero, Nat.div_one,
      Nat.mod_eq_of_lt (show (crc16 body).toNat < 256 ^ 2 from (crc16 body).isLt)] at whole
    rw [length, Nat.add_sub_cancel, Frame.seal, List.drop_left, whole]
  have long : 3 ≤ (Frame.seal body).length := by
    have := List.length_pos_iff.mpr some
    omega
  rw [Frame.intact, Frame.body_seal, crc, decide_eq_true long, beq_self_eq_true, Bool.and_self]

/-- The fields of a frame are those of its body. -/
theorem Frame.bytesAt_seal {i n : Nat} (h : i + n ≤ body.length) : bytesAt (Frame.seal body) i n = bytesAt body i n :=
  bytesAt_append_of_lt h

end

/-! ## The request header (R175) -/

section

variable {k : RequestKind} {count addr : Nat} {rest : List Byte}

theorem length_requestHeader : (requestHeader k count addr).length = 12 := by
  simp [requestHeader]

/-- A request frame: the header, what follows it, and the CRC. -/
def requestFrame (k : RequestKind) (count addr : Nat) (rest : List Byte) : Frame :=
  Frame.seal (requestHeader k count addr ++ rest)

theorem readFrame_eq (addr count : Nat) : readFrame addr count = requestFrame .read count addr [] := by
  rw [requestFrame, List.append_nil, readFrame]

theorem ctlReadFrame_eq (offset length : Nat) : ctlReadFrame offset length = requestFrame .ctlRead length offset [] := by
  rw [requestFrame, List.append_nil, ctlReadFrame]

theorem swapFrame_eq (addr : Nat) (old new : List Byte) : swapFrame addr old new = requestFrame .swap 0 addr (old ++ new) := by
  rw [requestFrame, ← List.append_assoc, swapFrame]

theorem length_requestFrame : (requestFrame k count addr rest).length = 14 + rest.length := by
  rw [requestFrame, Frame.length_seal, List.length_append, length_requestHeader]
  omega

theorem intact_requestFrame : (requestFrame k count addr rest).intact = true :=
  Frame.intact_seal (by simp [requestHeader, leBytes])

theorem bytesAt_requestFrame {i n : Nat} (h : i + n ≤ 12) :
    bytesAt (requestFrame k count addr rest) i n = bytesAt (requestHeader k count addr) i n := by
  have length := length_requestHeader (k := k) (count := count) (addr := addr)
  rw [requestFrame, Frame.bytesAt_seal _ (by rw [List.length_append]; omega), bytesAt_append_of_lt (by omega)]

theorem RequestKind.ofCode_code (k : RequestKind) : RequestKind.ofCode k.code = some k := by
  cases k <;> rfl

theorem kind_requestFrame (long : k.headerLength ≤ 12 + rest.length) : (requestFrame k count addr rest).kind = some k := by
  have code : bytesAt (requestFrame k count addr rest) 0 1 = k.code := by
    rw [bytesAt_requestFrame (by omega)]
    cases k <;> simp [requestHeader, RequestKind.code]
  rw [Frame.kind, code, RequestKind.ofCode_code]
  exact if_pos (by rw [length_requestFrame]; omega)

theorem count_requestFrame (fits : count < 2 ^ 16) : (requestFrame k count addr rest).count = count := by
  rw [Frame.count, bytesAt_requestFrame (by omega)]
  simp [requestHeader]
  omega

theorem addr_requestFrame (fits : addr < 2 ^ 36) : (requestFrame k count addr rest).addr = addr := by
  rw [Frame.addr, bytesAt_requestFrame (by omega)]
  simp [requestHeader, Config.bridgeSize]
  omega

theorem offset_requestFrame (fits : addr < 2 ^ 16) : (requestFrame k count addr rest).offset = addr := by
  rw [Frame.offset, bytesAt_requestFrame (by omega)]
  simp [requestHeader]
  omega

theorem payload_requestFrame (j : RequestKind) (long : 12 ≤ j.headerLength) :
    (requestFrame k count addr rest).payload j = rest.drop (j.headerLength - 12) := by
  rw [Frame.payload, requestFrame, Frame.body_seal, List.drop_append, length_requestHeader,
    List.drop_eq_nil_of_le (by rw [length_requestHeader]; exact long), List.nil_append]

/-- Bytes of a frame behind its header. -/
theorem drop_requestFrame (i : Nat) :
    (requestFrame k count addr rest).drop (12 + i) = (rest ++ leBytes 2 (crc16 (requestHeader k count addr ++ rest)).toNat).drop i := by
  rw [requestFrame, Frame.seal, List.append_assoc, ← List.drop_drop]
  exact congrArg _ (List.drop_left' length_requestHeader)

end

end Sys2Proof

namespace Sys2Proof.Machine

theorem row_of_kind {f : Frame} (intact : f.intact = true) :
    (f.kind = some .read → f.row = .read) ∧ (f.kind = some .write → f.row = .write) ∧ (f.kind = some .swap → f.row = .swap) := by
  refine ⟨fun kind => ?_, fun kind => ?_, fun kind => ?_⟩
  · simp only [Frame.row, intact, kind, if_true]
  · simp only [Frame.row, intact, kind, if_true]
  · simp only [Frame.row, intact, kind, if_true]

/-- Settles O3: each frame is a header, the fields behind it and a CRC, and each field is read at its place. -/
theorem requestFramesReadBack : Obligations.RequestFramesReadBack := by
  unfold Obligations.RequestFramesReadBack
  refine ⟨fun addr count haddr hcount => ?read, fun addr data haddr hdata => ?write, fun addr old new haddr hold hnew => ?swap,
    fun offset length hoffset hlength => ?ctlRead, fun offset value hoffset hvalue => ?ctlWrite⟩
  case read =>
    rw [readFrame_eq]
    have kind : (requestFrame .read count addr []).kind = some .read := kind_requestFrame (by decide)
    exact ⟨intact_requestFrame, kind, addr_requestFrame haddr, count_requestFrame hcount,
      payload_requestFrame .read (by decide), (row_of_kind intact_requestFrame).1 kind⟩
  case write =>
    have kind : (writeFrame addr data).kind = some .write :=
      kind_requestFrame (k := .write) (rest := data) (Nat.le_add_right 12 _)
    exact ⟨intact_requestFrame, kind, addr_requestFrame haddr, count_requestFrame hdata,
      payload_requestFrame .write (by decide), (row_of_kind intact_requestFrame).2.1 kind⟩
  case swap =>
    rw [swapFrame_eq]
    have kind : (requestFrame .swap 0 addr (old ++ new)).kind = some .swap :=
      kind_requestFrame (by simp [RequestKind.headerLength, hold, hnew])
    refine ⟨intact_requestFrame, kind, addr_requestFrame haddr, ?_, ?_, ?_, (row_of_kind intact_requestFrame).2.2 kind⟩
    · rw [Frame.compareValue, drop_requestFrame 0, List.drop_zero, List.append_assoc, ← hold, List.take_left]
    · rw [Frame.swapValue, drop_requestFrame 8, List.append_assoc, List.drop_left' hold, ← hnew, List.take_left]
    · rw [payload_requestFrame .swap (by decide)]
      exact List.drop_eq_nil_of_le (by simp [RequestKind.headerLength, hold, hnew])
  case ctlRead =>
    rw [ctlReadFrame_eq]
    exact ⟨intact_requestFrame, kind_requestFrame (by decide), offset_requestFrame hoffset, count_requestFrame hlength,
      payload_requestFrame .ctlRead (by decide)⟩
  case ctlWrite =>
    exact ⟨intact_requestFrame, kind_requestFrame (k := .ctlWrite) (rest := value) (Nat.le_add_right 12 _),
      offset_requestFrame hoffset, count_requestFrame hvalue, payload_requestFrame .ctlWrite (by decide)⟩

end Sys2Proof.Machine
end

section
/-! SUPPORT. What is sent and shown, byte by byte: the response frames, the event records and the readable registers; and the
statements about them. -/

/- The proofs are checked one after another: each that waits for the kernel holds the stack of a thread. -/
set_option Elab.async false

namespace Sys2Proof.Machine

/-! ## Widths (R177, R178) -/

section

@[simp] theorem length_recordBytes (r : Record) : r.bytes.length = 16 := by
  cases r <;> simp [Record.bytes]

@[simp] theorem length_headRecordBytes (queue : List Record) : (headRecordBytes queue).length = 16 := by
  cases queue <;> simp [headRecordBytes]

@[simp] theorem State.length_holderBytes (s : State) : s.holderBytes.length = 2 := by
  cases held : s.claim.held <;> simp [State.holderBytes, held]

@[simp] theorem State.length_queueStatus (s : State) : s.queueStatus.length = 8 := by
  cases queued : s.pwq <;> simp [State.queueStatus, queued]

@[simp] theorem Entry.length_view (e : Entry) : e.view.length = 16 := by
  simp [Entry.view]

@[simp] theorem Window.length_view (w : WindowId) (win : Window) : (win.view w).length = 16 := by
  simp [Window.view]

@[simp] theorem State.length_tagView (s : State) (t : Tag) : (s.tagView t).length = 16 := by
  cases found : s.drt.find? (fun e => e.tag == t) <;> simp [State.tagView, found]

theorem length_stagedBytes {α : Type} (field : Option α) {bytes : α → List Byte} (width : ∀ a, (bytes a).length = 7) :
    (stagedBytes (field.map bytes)).length = 8 := by
  cases field <;> simp [stagedBytes, width]

theorem State.length_registerBytes (s : State) (p : PortId) {r : Reg} (readable : r.readable = true) :
    (s.registerBytes p r).length = r.width := by
  cases r with
  | pjoin | notice | wcommit | evict => cases readable
  | wstgHost | wstgSize | wstgDest | wstgRights => exact length_stagedBytes _ fun _ => by simp
  | _ => simp [State.registerBytes, Reg.width]

end

/-! ## Response frames (R174, R176) -/

section

theorem Response.bytes_ne_nil (r : Response) : r.bytes ≠ [] := by
  cases r <;> simp [Response.bytes, leBytes]

theorem Response.eight_le_length_bytes (r : Response) : 8 ≤ r.bytes.length := by
  cases r with
  | data payload outcome => simp [Response.bytes]; omega
  | _ => simp [Response.bytes]

theorem Response.length_frame (r : Response) : r.frame.length = r.bytes.length + 2 :=
  Frame.length_seal _

theorem Response.intact_frame (r : Response) : r.frame.intact = true :=
  Frame.intact_seal r.bytes_ne_nil

/-- The header of a frame is the first 8 bytes of the response. -/
theorem Response.bytesAt_frame (r : Response) {i n : Nat} (h : i + n ≤ 8) : bytesAt r.frame i n = bytesAt r.bytes i n :=
  Frame.bytesAt_seal _ (h.trans r.eight_le_length_bytes)

/-- The payload of a DATA response stands behind the 8 bytes of its header. -/
theorem Response.payload_frame (payload : List Byte) (outcome : Option SwapOutcome) :
    ((Response.data payload outcome).frame.drop 8).take payload.length = payload := by
  simp [Response.frame, Frame.seal, Response.bytes, leBytes]

end

/-- Settles O4: the fields of a frame and of a record in their order, and the width of each register. -/
theorem whatIsSentHasItsWidth : Obligations.WhatIsSentHasItsWidth := by
  refine ⟨fun l i n => ⟨bytesAt_zero_length l i, bytesAt_succ⟩, fun r => ⟨r.intact_frame, ?length, ?response⟩,
    fun r => ⟨length_recordBytes r, ?record⟩, fun s p r readable => s.length_registerBytes p readable⟩
  case length =>
    rw [r.length_frame]
    cases r with
    | data payload outcome => simp [Response.bytes]; omega
    | _ => simp [Response.bytes]
  case response =>
    cases r with
    | data payload outcome =>
      simp [Response.bytesAt_frame, Response.bytes, Response.payload_frame]
      rcases outcome with _ | _ | _ <;> rfl
    | done sequence =>
      simp [Response.bytesAt_frame, Response.bytes]
      cases sequence with
      | none => rfl
      | some n => exact Nat.mod_eq_of_lt n.isLt
    | retry reason =>
      simp [Response.bytesAt_frame, Response.bytes]
      cases reason <;> rfl
    | refused reason =>
      simp [Response.bytesAt_frame, Response.bytes]
      cases reason <;> rfl
    | resend => simp [Response.bytesAt_frame, Response.bytes]
  case record =>
    cases r with
    | notice source payload =>
      simp [Record.bytes, Record.code]
      omega
    | discard tag addr count cause performed =>
      simp [Record.bytes, Record.code]
      refine ⟨?_, by omega, ?_, ?_, by omega, by omega⟩
      · cases cause <;> rfl
      · cases performed <;> rfl
      · rcases performed with _ | _ | _ <;> rfl
    | writeFault sequence addr count window cause =>
      simp [Record.bytes, Record.code]
      exact ⟨by cases cause <;> rfl, by omega⟩
    | orphanFault sequence addr count window cause source =>
      simp [Record.bytes, Record.code]
      exact ⟨by omega, by cases cause <;> rfl, by omega⟩
    | claimExpired => simp [Record.bytes, Record.code]
    | claimFreed former =>
      simp [Record.bytes, Record.code]
      omega
    | windowChanged window state =>
      simp [Record.bytes, Record.code]
      exact ⟨by omega, by cases state <;> rfl⟩
    | portJoined port =>
      simp [Record.bytes, Record.code]
      omega
    | portLeft port cause =>
      simp [Record.bytes, Record.code]
      exact ⟨by omega, by cases cause <;> rfl⟩
    | overflow count =>
      simp [Record.bytes, Record.code]
      omega

/-! ## What the registers show (R180 to R182) -/

section

variable {s : State} {p : PortId}

theorem Rights.code_lt (r : Rights) : r.code < 4 := by
  cases r <;> decide

/-- R180: each port's rights are two bits of the byte. -/
theorem rightsByte_at (list : RightsList) (k : PortId) : rightsByte list % 256 / 4 ^ k.val % 4 = list[k].code := by
  have h0 := list[0].code_lt
  have h1 := list[1].code_lt
  have h2 := list[2].code_lt
  have h3 := list[3].code_lt
  have ports : ∀ q : PortId, q = 0 ∨ q = 1 ∨ q = 2 ∨ q = 3 := by decide
  unfold rightsByte
  obtain rfl | rfl | rfl | rfl := ports k
  · change _ = list[0].code; simp; omega
  · change _ = list[1].code; simp; omega
  · change _ = list[2].code; simp; omega
  · change _ = list[3].code; simp; omega

theorem shownAs_rightsByte (list : RightsList) : list.shownAs (rightsByte list % 256) := by
  intro k
  rw [rightsByte_at]
  cases list[k] <;> rfl

theorem Window.shown (w : WindowId) (win : Window) : win.Shown w (win.view w) where
  index := by simp [Window.view]; omega
  state := by simp [Window.view]; cases win.state <;> rfl
  resource := by simp [Window.view]; cases win.resource <;> rfl
  size k low high size := by simp [Window.view, size]; omega
  refCount few := by simp [Window.view]; omega
  rights := by simpa [Window.view] using shownAs_rightsByte win.rights
  bridgeBase low := by simp [Window.view, Config.pageSize]; omega
  destBase low := by simp [Window.view, Config.pageSize]; omega
  zeros := by simp [Window.view]

theorem Entry.shown (e : Entry) : e.Shown e.view where
  tag := by simp [Entry.view]; omega
  state := by simp [Entry.view]; cases e.phase <;> rfl
  owner := by simp [Entry.view]; omega
  kind := by simp [Entry.view]; cases e.kind <;> rfl
  writesAhead := by
    cases phase : e.phase with
    | waiting n => intro few; simp [Entry.view, phase, Phase.writesAhead]; omega
    | _ => simp [Entry.view, phase, Phase.writesAhead]
  fresh few := by simp [Entry.view]; omega
  count few := by simp [Entry.view]; omega
  addr low := by simp [Entry.view]; omega
  zeros := by simp [Entry.view]

theorem State.registersShown (s : State) (p : PortId) : s.RegistersShown p where
  devid := rfl
  pstat := by
    refine ⟨?_, ?_, ?_, ?_, ?_⟩
    · simp [State.registerBytes]
      cases (s.port p).state <;> rfl
    · simp [State.registerBytes]
      omega
    · intro few
      simp [State.registerBytes, bytesAt_append_of_le]
      exact Nat.mod_eq_of_lt (few.trans_lt (by decide))
    · intro few
      simp [State.registerBytes, bytesAt_append_of_le]
      exact Nat.mod_eq_of_lt (few.trans_lt (by decide))
    · simp [State.registerBytes, bytesAt_append_of_le]
  holder := by
    cases held : s.claim.held with
    | some h => simp [State.registerBytes, State.holderBytes, held]; omega
    | none => simp [State.registerBytes, State.holderBytes, held]
  claim := by
    cases held : s.claim.held with
    | some h => simp [State.registerBytes, State.holderBytes, State.leaseShown, held]; omega
    | none => simp [State.registerBytes, State.holderBytes, State.leaseShown, held]
  evpeek := by cases queue : (s.port p).queue <;> simp [State.registerBytes, headRecordBytes, queue]; rfl
  evcnt := by simp [State.registerBytes]; omega
  attnen := by simp [State.registerBytes]; omega
  wstgHost := by
    cases staged : (s.port p).staging.base <;> simp [State.registerBytes, stagedBytes, staged]; omega
  wstgSize := by
    cases staged : (s.port p).staging.size <;> simp [State.registerBytes, stagedBytes, staged]; omega
  wstgDest := by
    cases staged : (s.port p).staging.dest with
    | some d =>
      simp [State.registerBytes, stagedBytes, staged]
      exact ⟨by omega, by cases d.1 <;> rfl⟩
    | none => simp [State.registerBytes, stagedBytes, staged]
  wstgRights := by
    cases staged : (s.port p).staging.rights with
    | some list => simp [State.registerBytes, stagedBytes, staged, shownAs_rightsByte]
    | none => simp [State.registerBytes, stagedBytes, staged]
  wviewSel := by simp [State.registerBytes]; omega
  tviewSel := by simp [State.registerBytes]; omega
  wview := Window.shown ..
  tview e found := by
    have shown : s.registerBytes p .tview = e.view := by simp only [State.registerBytes, State.tagView, found]
    rw [shown]
    exact e.shown
  tviewFree free := by
    have none : s.drt.find? (fun e => e.tag == (s.port p).tviewSel) = none :=
      List.find?_eq_none.mpr fun e he => by simpa using free e he
    have shown : s.registerBytes p .tview = leBytes 1 (s.port p).tviewSel.val ++ leBytes 15 0 := by
      simp only [State.registerBytes, State.tagView, none]
    rw [shown]
    simp
    omega
  qstat := by
    cases queued : s.pwq with
    | nil => simp [State.registerBytes, State.queueStatus, queued]; omega
    | cons h rest => simp [State.registerBytes, State.queueStatus, queued]; omega
  discardIv := by simp [State.registerBytes]; omega
  leaseIv := by simp [State.registerBytes]; omega
  xbTimeout := by simp [State.registerBytes]; omega

end

/-! ## Control decode of the frames with no row of their own (R129, R179) -/

section

variable {s : State} {p : PortId} {f : Frame} {r : Reg}

/-- A well-formed frame of control decode that is no CTL_READ is a CTL_WRITE whose payload has the length it names. -/
theorem length_of_ctlWrite (row : f.row = .ctlWrite) (formed : f.wellFormed = true) (other : f.kind ≠ some .ctlRead) :
    (f.payload .ctlWrite).length = f.count := by
  have intact : f.intact = true := by
    by_contra no
    simp [Frame.row, no] at row
  unfold Frame.wellFormed at formed
  obtain ⟨read, write, swap⟩ := row_of_kind intact
  cases kind : f.kind with
  | none => rw [kind] at formed; cases formed
  | some k =>
    rw [kind] at formed
    cases k with
    | read => rw [read kind] at row; cases row
    | write => rw [write kind] at row; cases row
    | swap => rw [swap kind] at row; cases row
    | ctlRead => exact absurd kind other
    | ctlWrite =>
      simp only [Bool.and_eq_true, beq_iff_eq] at formed
      exact formed.2

theorem exec_ctlWrite_of_malformed (taken : s.takes p .ctlWrite f) (malformed : f.wellFormed = false) :
    exec (.ctlWrite p) s = .next (s.answer p (.refused .malformed)) :=
  congrArg Host.Outcome.next ((State.take_of_takes taken _ _).trans (if_pos (by rw [malformed]; rfl)))

theorem exec_ctlWrite_of_read (taken : s.takes p .ctlWrite f) (formed : f.wellFormed = true) (kind : f.kind = some .ctlRead) :
    exec (.ctlWrite p) s = .next (s.controlRead p f.offset f.count) :=
  congrArg Host.Outcome.next ((State.take_of_takes taken _ _).trans
    ((if_neg (by rw [formed]; decide)).trans (if_pos (by rw [kind]; rfl))))

theorem exec_ctlWrite_of_write (taken : s.takes p .ctlWrite f) (formed : f.wellFormed = true) (kind : f.kind ≠ some .ctlRead) :
    exec (.ctlWrite p) s = .next (s.otherWrite p f.offset (f.payload .ctlWrite)) :=
  congrArg Host.Outcome.next ((State.take_of_takes taken _ _).trans
    ((if_neg (by rw [formed]; decide)).trans (if_neg (by simpa using kind))))

theorem State.controlRead_of_unknown {offset length : Nat} (none : Reg.ofOffset offset = none) :
    s.controlRead p offset length = s.answer p (.refused .unknownOffset) := by
  simp only [State.controlRead, none, State.refuse]

theorem State.controlRead_of_register {offset length : Nat} (found : Reg.ofOffset offset = some r) :
    s.controlRead p offset length =
      if r.readable = true ∧ length = r.width then s.answer p (.data (s.registerBytes p r) none)
      else s.answer p (.refused .wrongAccess) := by
  simp only [State.controlRead, found, Bool.and_eq_true, beq_iff_eq, State.refuse]

theorem State.otherWrite_of_unknown {offset : Nat} {value : List Byte} (none : Reg.ofOffset offset = none) :
    s.otherWrite p offset value = s.answer p (.refused (if s.online p = true then .unknownOffset else .notJoined)) := by
  simp only [State.otherWrite, none, State.refuse]
  split
  · rfl
  · rfl

theorem State.otherWrite_of_register {offset : Nat} {value : List Byte} (found : Reg.ofOffset offset = some r) :
    s.otherWrite p offset value = s.controlWrite p r value (.refused .badValue) := by
  simp only [State.otherWrite, found]

end

/-- Settles O37: what every register shows, and control decode by the kind of the frame and the register its offset names. -/
theorem otherControlRequests : Obligations.OtherControlRequests := by
  refine ⟨State.registersShown, fun s p f taken => ⟨exec_ctlWrite_of_malformed taken, fun formed kind => ⟨fun none => ?_,
    fun r found => ?_⟩, fun formed kind => ⟨fun none => ?_, fun r found => ?_⟩⟩⟩
  · rw [exec_ctlWrite_of_read taken formed kind, State.controlRead_of_unknown none]
  · rw [exec_ctlWrite_of_read taken formed kind, State.controlRead_of_register found]
  · rw [exec_ctlWrite_of_write taken formed kind, State.otherWrite_of_unknown none]
  · rw [exec_ctlWrite_of_write taken formed kind, State.otherWrite_of_register found, State.controlWrite_of_bad_value,
      length_of_ctlWrite taken.2.1 formed kind, State.refuse]

end Sys2Proof.Machine
end
